-- ==== Sys2Proof/Word.lean ====
section
/-! DEFINITION. The bit-vector types of the machine: bytes, register words, request words and bus-frame words. -/

namespace Sys2Proof

/-- One byte of a bus exchange, a page number, or an in-page offset (R5: `PAGE_W`, `OFF_W` are 8 bits). -/
abbrev Byte := BitVec 8

/-- A register word (R5: `WORD_W` is 16 bits). -/
abbrev Word := BitVec 16

/-- A request word (R60). -/
abbrev ReqWord := BitVec 40

/-- A bus frame as a 16-bit value, `b0` in bits [15:8] (R64). -/
abbrev FrameWord := BitVec 16

end Sys2Proof
end

