-- ==== Sys2Proof/Config.lean ====
section
/-! DEFINITION. The parameters of the block (R5), fixed for one machine, and the free values: constants with no body,
so that no proof can see what they are. -/

namespace Sys2Proof

/-- The float format of the scaling unit, `SCALE_FMT` (R5, R130). -/
inductive ScaleFmt where
  | binary32
  | binary64
  deriving DecidableEq, Repr, Inhabited

/-- One value for each of the nine burst fields, in the order of R106: index 0 is `diag`, index 8 is `temp`. -/
structure BurstFields (α : Type) where
  diag  : α
  alarm : α
  gyroX : α
  gyroY : α
  gyroZ : α
  acclX : α
  acclY : α
  acclZ : α
  temp  : α
  deriving DecidableEq, Repr, Inhabited

/-- A well-formed burst offset (R105: bit 7 and bit 0 clear), held as the six bits that are left, so that an
ill-formed one cannot be written down (log 25). Its byte is `BurstOffset.byte`. -/
structure BurstOffset where
  slot : BitVec 6
  deriving DecidableEq, Repr, Inhabited

/-- The burst configuration of R105: `BURST_ADDR[0..8]` and `BURST_DUMMY`. -/
structure BurstConfig where
  addr  : BurstFields BurstOffset
  dummy : BurstOffset
  deriving DecidableEq, Repr, Inhabited

/-- The named parameters of R5 that are not fixed by the widths of the types. -/
structure Params where
  /-- `T_STALL_US`, the single-register stall (µs). -/
  tStallUs : Nat
  /-- `T_BURST_STALL_US`, the burst stall (µs). -/
  tBurstStallUs : Nat
  /-- `BURST_ADDR[0..8]` and `BURST_DUMMY`. -/
  burst : BurstConfig
  /-- `XPORT_ERR_REPORTING`. -/
  xportErrReporting : Bool
  /-- `RESET_RESYNCS_PAGE`. -/
  resetResyncsPage : Bool
  /-- `T_RST_MIN` (µs). -/
  tRstMinUs : Nat
  /-- `T_RESET_RECOVERY` (µs): a duty of the host (R33, R163); no step reads it, the model has no time (R6). -/
  tResetRecoveryUs : Nat
  /-- `F_SCLK` (Hz): a setting of the transport (R162); no step reads it. -/
  fSclkHz : Nat
  /-- `CS_ACTIVE_LEVEL`: the level of the chip-select pin that means asserted. -/
  csActiveLevel : Bool
  /-- `RST_ACTIVE_LEVEL`: the level of the reset pin that means asserted. -/
  rstActiveLevel : Bool
  /-- `SCALE_FMT`. -/
  scaleFmt : ScaleFmt
  deriving DecidableEq, Repr, Inhabited

/-- OPEN (R5, decision D6): the burst configuration of the built block. -/
opaque Config.burst : BurstConfig

/-- OPEN (R5, decision D13): `T_RST_MIN` in µs. -/
opaque Config.tRstMinUs : Nat

/-- OPEN (R5, decision D13): `T_RESET_RECOVERY` in µs. -/
opaque Config.tResetRecoveryUs : Nat

/-- OPEN (R5, decision D24): `F_SCLK` in Hz. -/
opaque Config.fSclkHz : Nat

/-- OPEN (R5, decision D24): `CS_ACTIVE_LEVEL`. -/
opaque Config.csActiveLevel : Bool

/-- OPEN (R5, decision D24): `RST_ACTIVE_LEVEL`. -/
opaque Config.rstActiveLevel : Bool

/-- The parameters of the built block: D0's values where R5 gives them, constants without a body where R5 says OPEN. -/
def Config.params : Params where
  tStallUs := 5
  tBurstStallUs := 10
  burst := Config.burst
  xportErrReporting := false
  resetResyncsPage := false
  tRstMinUs := Config.tRstMinUs
  tResetRecoveryUs := Config.tResetRecoveryUs
  fSclkHz := Config.fSclkHz
  csActiveLevel := Config.csActiveLevel
  rstActiveLevel := Config.rstActiveLevel
  scaleFmt := .binary32

/-- FREE VALUE (R8: "the `rx` byte of every `XFER` is a draw"): the byte of the `n`-th exchange (log 2). -/
opaque Config.rxDraw : Nat → Byte

/-- FREE VALUE (R28(b), R33, R122, R143(d)): the `n`-th drawn device page (log 2). -/
opaque Config.pageDraw : Nat → Byte

end Sys2Proof
end

