-- ==== Sys2Proof/Syntax.lean ====
section
/-! DEFINITION. The instructions: the nine requests of R61 and the seven bus frames of R66, one constructor for each row
of the opcode table; and the two units a step can fetch. -/

namespace Sys2Proof

/-- An operation of the block. The requests come in at the request port (R60); the frames are emitted by the
sequencer while a request is in flight (R66). -/
inductive Instr where
  /-- READ_REG, R84. -/
  | readReg (page off : Byte)
  /-- WRITE_REG, R85. -/
  | writeReg (page off : Byte) (value : Word)
  /-- READ_BURST, R102. -/
  | readBurst
  /-- RESET_DEV, R120. -/
  | resetDev (ms : Word)
  /-- SCALE_ACCL, R131. -/
  | scaleAccl (raw : Word)
  /-- SCALE_GYRO, R132. -/
  | scaleGyro (raw : Word)
  /-- SCALE_TEMP, R133. -/
  | scaleTemp (raw : Word)
  /-- SCALE_DANG, R134. -/
  | scaleDang (raw : Word)
  /-- SCALE_DVEL, R135. -/
  | scaleDvel (raw : Word)
  /-- PSEL, the page-select frame, R81. -/
  | psel (page : Byte)
  /-- RADDR, READ_REG's address frame, R84. -/
  | raddr (off : Byte)
  /-- RDATA, READ_REG's data frame, R84. -/
  | rdata
  /-- WLO, WRITE_REG's low-byte frame for the register at `off`, R85. -/
  | wlo (off lo : Byte)
  /-- WHI, WRITE_REG's high-byte frame for the register at `off` (its bytes go to `off + 1`), R85. -/
  | whi (off hi : Byte)
  /-- BREQ, a burst frame that requests a field, R102. -/
  | breq (off : Byte)
  /-- BEND, the last burst frame, R102. -/
  | bend (off : Byte)
  deriving DecidableEq, Repr

/-- Why the block refuses a request (R141, codes 1 to 4). -/
inductive RefuseCode where
  /-- `REF_RESERVED_OP`. -/
  | reservedOp
  /-- `REF_NONZERO_FIELD`. -/
  | nonzeroField
  /-- `REF_MISALIGNED`. -/
  | misaligned
  /-- `REF_OFFSET_BIT7`. -/
  | offsetBit7
  deriving DecidableEq, Repr

/-- The frame kinds of R66. Several kinds share bits (R66), so a frame is read together with its kind, which the
sequencer's position fixes. -/
inductive FrameKind where
  | psel | raddr | rdata | wlo | whi | breq | bend
  deriving DecidableEq, Repr

/-- What a step fetches: a request word from the port, or the frame word the sequencer is about to emit. -/
inductive Fetched where
  | request (w : ReqWord)
  | frame (k : FrameKind) (w : FrameWord)
  deriving DecidableEq, Repr

/-- Why `decode` answers no instruction. -/
inductive DecodeError where
  /-- A request that R73 refuses, with its code. Safe: the block answers the requester with that code (R142). -/
  | refused (c : RefuseCode)
  /-- A frame word the block never emits at that position (R70). Safe: no request leads to one. -/
  | notAFrame
  deriving DecidableEq, Repr

end Sys2Proof
end

