-- ==== Sys2Proof/WellFormed.lean ====
section
/-! DEFINITION. Which operands the encodings accept (R41, R47, R48, R66, R105). -/

namespace Sys2Proof

/-- An admitted in-page offset: even and with bit 7 clear (R41, R63). -/
def admittedOff (off : Byte) : Bool :=
  !off.getLsbD 0 && !off.getLsbD 7

/-- The operands are ones the instruction's encoding admits: offsets are admitted ones (R47, R48, R105), and
every page, value, duration and raw word is (R53, R61). -/
def Instr.wellFormed : Instr → Bool
  | .readReg _ off => admittedOff off
  | .writeReg _ off _ => admittedOff off
  | .readBurst => true
  | .resetDev _ => true
  | .scaleAccl _ => true
  | .scaleGyro _ => true
  | .scaleTemp _ => true
  | .scaleDang _ => true
  | .scaleDvel _ => true
  | .psel _ => true
  | .raddr off => admittedOff off
  | .rdata => true
  | .wlo off _ => admittedOff off
  | .whi off _ => admittedOff off
  | .breq off => admittedOff off
  | .bend off => admittedOff off

/-- The instruction is a request (R61), not a bus frame. -/
def Instr.isRequest : Instr → Bool
  | .readReg _ _ => true
  | .writeReg _ _ _ => true
  | .readBurst => true
  | .resetDev _ => true
  | .scaleAccl _ => true
  | .scaleGyro _ => true
  | .scaleTemp _ => true
  | .scaleDang _ => true
  | .scaleDvel _ => true
  | .psel _ => false
  | .raddr _ => false
  | .rdata => false
  | .wlo _ _ => false
  | .whi _ _ => false
  | .breq _ => false
  | .bend _ => false

end Sys2Proof
end

