-- ==== Sys2Proof/Decode.lean ====
section
/-! DEFINITION. The decoder of request words (R73) and of bus frames (R65, R66), total and rejecting by name; then the
encoder, from the same tables; then the host's `decodeTableWord`. -/

namespace Sys2Proof

/-- `check_off` of R73: misaligned before bit 7 (R144). -/
def checkOff (off : Byte) : Option RefuseCode :=
  if off.getLsbD 0 then some .misaligned
  else if off.getLsbD 7 then some .offsetBit7
  else none

/-- `op`, bits [39:36] (R60). -/
def reqOpField (w : ReqWord) : BitVec 4 := w.extractLsb' 36 4

/-- `rsv`, bits [35:32] (R60). -/
def reqRsvField (w : ReqWord) : BitVec 4 := w.extractLsb' 32 4

/-- `addr`, bits [31:16] (R60). -/
def reqAddrField (w : ReqWord) : BitVec 16 := w.extractLsb' 16 16

/-- `data`, bits [15:0] (R60). -/
def reqDataField (w : ReqWord) : BitVec 16 := w.extractLsb' 0 16

/-- `page = addr[15:8]` (R40, R63). -/
def addrPage (addr : BitVec 16) : Byte := addr.extractLsb' 8 8

/-- `off = addr[7:0]` (R40, R63). -/
def addrOff (addr : BitVec 16) : Byte := addr.extractLsb' 0 8

/-- A request that R73 refuses. -/
def refuseWith (c : RefuseCode) : Except DecodeError Instr := .error (.refused c)

/-- A register access, once its other checks have passed: `check_off` and then the operation (R73). -/
def checkedAccess (off : Byte) (i : Instr) : Except DecodeError Instr :=
  match checkOff off with
  | some c => refuseWith c
  | none => .ok i

/-- An operation whose `addr` must be 0 (R61, R62). -/
def zeroAddr (addr : BitVec 16) (i : Instr) : Except DecodeError Instr :=
  if addr = 0 then .ok i else refuseWith .nonzeroField

/-- `decode` of R73: every one of the 2^40 words is one operation or one refusal, the checks in the order of R144. -/
def decodeRequest (w : ReqWord) : Except DecodeError Instr :=
  let addr := reqAddrField w
  let data := reqDataField w
  if reqRsvField w ≠ 0 then refuseWith .reservedOp
  else match (reqOpField w).toNat with
    | 0x0 =>
      if data = 0 then checkedAccess (addrOff addr) (.readReg (addrPage addr) (addrOff addr))
      else refuseWith .nonzeroField
    | 0x1 => checkedAccess (addrOff addr) (.writeReg (addrPage addr) (addrOff addr) data)
    | 0x2 => if addr = 0 ∧ data = 0 then .ok .readBurst else refuseWith .nonzeroField
    | 0x3 => zeroAddr addr (.resetDev data)
    | 0x8 => zeroAddr addr (.scaleAccl data)
    | 0x9 => zeroAddr addr (.scaleGyro data)
    | 0xA => zeroAddr addr (.scaleTemp data)
    | 0xB => zeroAddr addr (.scaleDang data)
    | 0xC => zeroAddr addr (.scaleDvel data)
    | _ => refuseWith .reservedOp

/-- `b0`, bits [15:8] of a frame (R64). -/
def frameB0 (w : FrameWord) : Byte := w.extractLsb' 8 8

/-- `b1`, bits [7:0] of a frame (R64). -/
def frameB1 (w : FrameWord) : Byte := w.extractLsb' 0 8

/-- A read-request frame: `W = 0`, an even offset and the filler `0x00` (R65, R66). -/
def readFrame (w : FrameWord) : Bool := admittedOff (frameB0 w) && frameB1 w == 0

/-- The `W` flag, bit 7 of `b0` (R65). -/
def writeFlag (w : FrameWord) : Bool := (frameB0 w).getLsbD 7

/-- Whether the in-page byte offset `A = b0[6:0]` is odd (R65). -/
def oddOff (w : FrameWord) : Bool := (frameB0 w).getLsbD 0

/-- The frame word read at a position that emits frames of kind `k` (R66); `none` for words R70 says are never emitted. -/
def decodeFrame (k : FrameKind) (w : FrameWord) : Option Instr :=
  match k with
  | .psel => if frameB0 w = 0x80 then some (.psel (frameB1 w)) else none
  | .raddr => if readFrame w then some (.raddr (frameB0 w)) else none
  | .rdata => if w = 0 then some .rdata else none
  | .wlo => if writeFlag w && !oddOff w then some (.wlo (frameB0 w &&& 0x7E) (frameB1 w)) else none
  | .whi => if writeFlag w && oddOff w then some (.whi (frameB0 w &&& 0x7E) (frameB1 w)) else none
  | .breq => if readFrame w then some (.breq (frameB0 w)) else none
  | .bend => if readFrame w then some (.bend (frameB0 w)) else none

/-- The decoder: total on everything a step can fetch. -/
def decode : Fetched → Except DecodeError Instr
  | .request w => decodeRequest w
  | .frame k w =>
    match decodeFrame k w with
    | some i => .ok i
    | none => .error .notAFrame

/-- The kind a frame word is read as when nothing but its bits is known: the most specific row of the table that
matches it (log 8). -/
def bareFrameKind (w : FrameWord) : FrameKind :=
  if w = 0 then .rdata
  else if frameB0 w = 0x80 then .psel
  else if !writeFlag w then .raddr
  else if oddOff w then .whi
  else .wlo

/-- A request word from its fields, `rsv = 0` (R60). -/
def requestWord (op : BitVec 4) (addr data : BitVec 16) : ReqWord :=
  op ++ (0#4 ++ (addr ++ data))

/-- A frame word from its bytes (R64). -/
def frameWord (b0 b1 : Byte) : FrameWord := b0 ++ b1

/-- `wlo_b0 = off | 0x80` (R68). -/
def wloB0 (off : Byte) : Byte := off ||| 0x80

/-- `whi_b0 = ((off + 1) mod 256) | 0x80` (R68). -/
def whiB0 (off : Byte) : Byte := (off + 1) ||| 0x80

/-- The encoder: the words of an instruction, by the tables of R61 and R66. -/
def encode : Instr → Fetched
  | .readReg page off => .request (requestWord 0x0 (page ++ off) 0)
  | .writeReg page off value => .request (requestWord 0x1 (page ++ off) value)
  | .readBurst => .request (requestWord 0x2 0 0)
  | .resetDev ms => .request (requestWord 0x3 0 ms)
  | .scaleAccl raw => .request (requestWord 0x8 0 raw)
  | .scaleGyro raw => .request (requestWord 0x9 0 raw)
  | .scaleTemp raw => .request (requestWord 0xA 0 raw)
  | .scaleDang raw => .request (requestWord 0xB 0 raw)
  | .scaleDvel raw => .request (requestWord 0xC 0 raw)
  | .psel page => .frame .psel (frameWord 0x80 page)
  | .raddr off => .frame .raddr (frameWord off 0x00)
  | .rdata => .frame .rdata (frameWord 0x00 0x00)
  | .wlo off lo => .frame .wlo (frameWord (wloB0 off) lo)
  | .whi off hi => .frame .whi (frameWord (whiB0 off) hi)
  | .breq off => .frame .breq (frameWord off 0x00)
  | .bend off => .frame .bend (frameWord off 0x00)

/-- The request word of a request; the zero word for a frame, which is never offered at the port. -/
def encodeRequest (i : Instr) : ReqWord :=
  match encode i with
  | .request w => w
  | .frame _ _ => 0

/-- What the decoder reads from the bits `w` of a table row: 40 bits are a request word, 16 bits a bus frame read
with no position known. -/
def decodeTableWord (nbits w : Nat) : Option Instr :=
  if nbits = 40 then (decodeRequest (BitVec.ofNat 40 w)).toOption
  else if nbits = 16 then
    decodeFrame (bareFrameKind (BitVec.ofNat 16 w)) (BitVec.ofNat 16 w)
  else none

end Sys2Proof
end

