-- ==== Sys2Proof/Machine/State.lean ====
section
/-! DEFINITION. The state of the block as plain data, the reasons a run of it could stop, and the state after block
initialization (R20 to R33, R160). -/

namespace Sys2Proof.Machine

/-- The sequencer's positions, the table of R21. -/
inductive Fsm where
  | idle | check
  | psel | pselWait
  | raddr | raddrWait | rdata | rdataWait
  | wlo | wloWait | whi | whiWait
  | bprime | bprimeWait | bcap | bcapWait
  | rst | resp
  deriving DecidableEq, Repr

/-- The sub-position inside a frame state: which event of `Frame` comes next (R21, R83). -/
inductive FPos where
  | csOn | b0 | b1 | csOff
  deriving DecidableEq, Repr

/-- The model's own sub-position inside `S_RST`: which event of `Pulse_reset` comes next (R10, R120; log 13). -/
inductive RPos where
  | lineOn | wait | lineOff
  deriving DecidableEq, Repr

/-- A bus event (R7(b)). An exchange is recorded with its answer, any other event when it is emitted (R10; log 14). -/
inductive BusEvent where
  /-- `CS(assert)` is `cs true`, `CS(deassert)` is `cs false`. -/
  | cs (on : Bool)
  /-- `XFER(tx) -> rx`. -/
  | xfer (tx rx : Byte)
  /-- `XFER(tx) -> err` (R143). -/
  | xferErr (tx : Byte)
  /-- `WAIT_US(n)`. -/
  | waitUs (n : Nat)
  /-- `WAIT_MS(n)`. -/
  | waitMs (n : Nat)
  /-- `RST(assert)` is `rst true`, `RST(deassert)` is `rst false`. -/
  | rst (on : Bool)
  deriving DecidableEq, Repr

/-- What the transport does with one `XFER` (R8, R143, R154). -/
inductive XferAnswer where
  /-- It returns this byte. -/
  | byte (b : Byte)
  /-- The exchange fails; reported only with `XPORT_ERR_REPORTING = true` (R89, R143). -/
  | err
  /-- It does not answer: the block stays where it is (R154). -/
  | silent
  deriving DecidableEq, Repr

/-- What the timing capability does with one wait (R8, R154). -/
inductive TimerAnswer where
  /-- The wait ends. -/
  | elapsed
  /-- It does not end: the block stays where it is (R154). -/
  | pending
  deriving DecidableEq, Repr

/-- What the host does before one tick of the block (R33; log 15). -/
inductive HostTurn where
  /-- Nothing. -/
  | quiet
  /-- It issues the host event `RECOVERED`. -/
  | recovered
  deriving DecidableEq, Repr

/-- The status of a response (R141). -/
inductive Status where
  | ok
  | refused (c : RefuseCode)
  | fltTransport
  deriving DecidableEq, Repr

/-- The payload of a response (R74). Words are 16-bit patterns, read as signed (R67); floats are their bits. -/
inductive Payload where
  | none
  | word (w : Word)
  | sample (b : BurstFields Word)
  | float32 (bits : BitVec 32)
  | float64 (bits : BitVec 64)
  deriving DecidableEq, Repr

/-- A response (R74). `xfault` is absent when `XPORT_ERR_REPORTING = false`. -/
structure Response where
  status  : Status
  xfault  : Option Bool
  payload : Payload
  deriving DecidableEq, Repr

/-- Why the machine would stop with a fault. No step of the block does: a transport fault is a next state (R143). -/
inductive Fault where
  /-- A 4-bit status code that the block never produces was read (93 I15). Raised by `statusOfCode`, which the reader
  of a response uses, never by a step. Safe: the hardware produces no such code (R141). -/
  | unknownStatus (code : BitVec 4)
  deriving DecidableEq, Repr

/-- Why the model would refuse. No step of the block does: a refused request is a next state (R142). -/
inductive Refusal where
  /-- An instruction of the table that has no meaning yet. Raised by no arm of `exec`. Safe. -/
  | notModelled (mnemonic : String)
  /-- The burst configuration has an offset with bit 7 or bit 0 set (R105). Raised by `initBlock`, the
  construction of the block. Safe: R105 asks for this refusal. -/
  | illFormedConfig
  deriving DecidableEq, Repr

/-- The machine. INVENTORY.md lists each field with the rule that names it. -/
structure State where
  /-- The parameters of R5; no step writes them (log 9). -/
  cfg : Params
  /-- `cur_page` (R20). -/
  curPage : Byte
  /-- `fsm` (R21). -/
  fsm : Fsm
  /-- `fpos` (R21). -/
  fpos : FPos
  /-- The model's own: the sub-position inside `S_RST` (log 13). -/
  rpos : RPos
  /-- The model's own: the wait of this position has been emitted and has not ended (R10; log 13). -/
  waiting : Bool
  /-- `req_op` (R23). -/
  reqOp : BitVec 4
  /-- `req_page` (R23). -/
  reqPage : Byte
  /-- `req_off` (R23). -/
  reqOff : Byte
  /-- `req_data` (R23). -/
  reqData : Word
  /-- `rdata` (R24). -/
  rdata : Word
  /-- `bbuf[0..8]` (R25). -/
  bbuf : BurstFields Word
  /-- `bk` (R25). -/
  bk : BitVec 4
  /-- `xfault` (R26); false throughout when `XPORT_ERR_REPORTING = false` (log 18). -/
  xfault : Bool
  /-- Chip-select is asserted (R32). -/
  csLine : Bool
  /-- The reset line is asserted (R32). -/
  rstLine : Bool
  /-- Ghost `dev_page` (R28). -/
  devPage : Byte
  /-- Ghost `dev_recovering` (R33). -/
  devRecovering : Bool
  /-- The model's own: `r0` of the capturing frame in flight (R84, R102; log 13). -/
  rx0 : Byte
  /-- The model's own: `r1` of the capturing frame in flight (log 13). -/
  rx1 : Byte
  /-- The model's own: an `XFER` of the frame in flight failed (R143; log 13). -/
  aborting : Bool
  /-- The model's own: exchanges so far, the index of the next free `rx` byte (log 2). -/
  rxDraws : Nat
  /-- The model's own: the index of the next free `dev_page` (log 2). -/
  pageDraws : Nat
  /-- The request port, the word to be taken first at the head (R7(a), R22); in `S_CHECK` the head is the accepted word
  (log 28). -/
  offered : List ReqWord
  /-- The responses handed over, oldest first (R31, R74). -/
  responses : List Response
  /-- The bus events emitted, oldest first (R7(b)). -/
  bus : List BusEvent
  /-- What the transport will answer, the next `XFER` first; past its end the answer is a free byte (log 2, log 3). -/
  xport : List XferAnswer
  /-- What the timing capability will answer, the next wait first; past its end a wait ends (log 3). -/
  timer : List TimerAnswer
  /-- What the host will do, one turn before each tick, the next first; past its end nothing (R33; log 15). -/
  host : List HostTurn
  deriving DecidableEq, Repr

/-- The block's state after block initialization with the given parameters (R32, R160). The latches that the spec
gives no value hold zero (log 1); `dev_page` and `dev_recovering` are the launch premises of R161 (log 10). -/
def State.initial (cfg : Params) : State where
  cfg := cfg
  curPage := 0x00
  fsm := .idle
  fpos := .csOn
  rpos := .lineOn
  waiting := false
  reqOp := 0
  reqPage := 0
  reqOff := 0
  reqData := 0
  rdata := 0
  bbuf := ⟨0, 0, 0, 0, 0, 0, 0, 0, 0⟩
  bk := 0
  xfault := false
  csLine := false
  rstLine := false
  devPage := 0x00
  devRecovering := false
  rx0 := 0
  rx1 := 0
  aborting := false
  rxDraws := 0
  pageDraws := 0
  offered := []
  responses := []
  bus := []
  xport := []
  timer := []
  host := []

/-- The machine right after block initialization (R160), with the built block's parameters. -/
def State.reset : State := State.initial Config.params

/-- `busy` (R22): derived, no storage. -/
def State.busy (s : State) : Bool := s.fsm != .idle

end Sys2Proof.Machine
end

