-- ==== Sys2Proof/Machine/Operands.lean ====
section
/-! DEFINITION. The values derived from operands and received bytes (R43 to R45, R65 to R68, R105), and the fields of a burst
sample by index (R106). -/

namespace Sys2Proof

/-- The byte of a well-formed burst offset: bit 7 and bit 0 clear (R105). -/
def BurstOffset.byte (o : BurstOffset) : Byte := 0#1 ++ (o.slot ++ 0#1)

/-- A raw burst offset, refused when bit 7 or bit 0 is set (R105). -/
def BurstOffset.ofByte (b : Byte) : Option BurstOffset :=
  if admittedOff b then some ⟨b.extractLsb' 1 6⟩ else none

/-- Field `i` in the order of R106; indices past 8 read the last field (no rule reads them). -/
def BurstFields.get {α : Type} (f : BurstFields α) : Nat → α
  | 0 => f.diag
  | 1 => f.alarm
  | 2 => f.gyroX
  | 3 => f.gyroY
  | 4 => f.gyroZ
  | 5 => f.acclX
  | 6 => f.acclY
  | 7 => f.acclZ
  | _ => f.temp

/-- Field `i` in the order of R106 replaced; indices past 8 replace nothing. -/
def BurstFields.set {α : Type} (f : BurstFields α) (i : Nat) (v : α) : BurstFields α :=
  match i with
  | 0 => { f with diag := v }
  | 1 => { f with alarm := v }
  | 2 => { f with gyroX := v }
  | 3 => { f with gyroY := v }
  | 4 => { f with gyroZ := v }
  | 5 => { f with acclX := v }
  | 6 => { f with acclY := v }
  | 7 => { f with acclZ := v }
  | 8 => { f with temp := v }
  | _ => f

/-- All nine raw offsets checked (R105). -/
def BurstFields.ofBytes (f : BurstFields Byte) : Option (BurstFields BurstOffset) :=
  (BurstOffset.ofByte f.diag).bind fun a => (BurstOffset.ofByte f.alarm).bind fun b =>
  (BurstOffset.ofByte f.gyroX).bind fun c => (BurstOffset.ofByte f.gyroY).bind fun d =>
  (BurstOffset.ofByte f.gyroZ).bind fun e => (BurstOffset.ofByte f.acclX).bind fun g =>
  (BurstOffset.ofByte f.acclY).bind fun h => (BurstOffset.ofByte f.acclZ).bind fun i =>
  (BurstOffset.ofByte f.temp).map fun j => ⟨a, b, c, d, e, g, h, i, j⟩

/-- The burst configuration from raw offsets, refused unless all ten are well formed (R105). -/
def BurstConfig.ofBytes (addr : BurstFields Byte) (dummy : Byte) : Option BurstConfig :=
  addr.ofBytes.bind fun a => (BurstOffset.ofByte dummy).map fun d => ⟨a, d⟩

namespace Machine

/-- `word = r0 ++ r1`, `r0` in bits [15:8] (R44, R67). -/
def assembleWord (r0 r1 : Byte) : Word := r0 ++ r1

/-- `s16` of a word (R9, R67). -/
def s16 (w : Word) : Int := w.toInt

/-- The word sign-extended to 32 bits, as a consumer widens it (R67). -/
def sext32 (w : Word) : BitVec 32 := w.signExtend 32

/-- `v[7:0]`, the byte WRITE_REG sends first (R45, R68). -/
def lowByte (v : Word) : Byte := v.extractLsb' 0 8

/-- `v[15:8]`, the byte WRITE_REG sends second (R45, R68). -/
def highByte (v : Word) : Byte := v.extractLsb' 8 8

/-- The bits of a byte in the order they go on the wire: most significant first (R43). -/
def wireBits (b : Byte) : List Bool := (List.range 8).map fun i => b.getLsbD (7 - i)

/-- `tx <- (bk <= 8) ? BURST_ADDR[bk] : BURST_DUMMY` (R102); index 0 is the priming frame's (R103). -/
def burstTx (c : BurstConfig) (bk : Nat) : Byte :=
  if bk ≤ 8 then (c.addr.get bk).byte else c.dummy.byte

end Machine

end Sys2Proof
end

