-- ==== Sys2Proof/Machine/Flags.lean ====
section
/-! DEFINITION. The block's one flag `xfault` (R26, R27), the status codes (R141) and the electrical levels of the lines. -/

namespace Sys2Proof.Machine

/-- The 4-bit code of a refusal (R141). -/
def refuseCodeBits : RefuseCode → BitVec 4
  | .reservedOp => 0x1
  | .nonzeroField => 0x2
  | .misaligned => 0x3
  | .offsetBit7 => 0x4

/-- The 4-bit `status` field of a response (R74, R141). -/
def statusCode : Status → BitVec 4
  | .ok => 0x0
  | .refused c => refuseCodeBits c
  | .fltTransport => 0x8

/-- The status a 4-bit code stands for; codes the block never produces fault (R141, 93 I15; log 20). -/
def statusOfCode (code : BitVec 4) : Except Fault Status :=
  match code.toNat with
  | 0x0 => .ok .ok
  | 0x1 => .ok (.refused .reservedOp)
  | 0x2 => .ok (.refused .nonzeroField)
  | 0x3 => .ok (.refused .misaligned)
  | 0x4 => .ok (.refused .offsetBit7)
  | 0x8 => .ok .fltTransport
  | _ => .error (.unknownStatus code)

/-- The `xfault` bit of a response: present only when `XPORT_ERR_REPORTING = true` (R26, R74). -/
def xfaultOut (s : State) : Option Bool :=
  if s.cfg.xportErrReporting then some s.xfault else none

/-- The level of the chip-select pin (R5 `CS_ACTIVE_LEVEL`, R32). -/
def csPin (s : State) : Bool := s.csLine == s.cfg.csActiveLevel

/-- The level of the reset pin (R5 `RST_ACTIVE_LEVEL`, R32). -/
def rstPin (s : State) : Bool := s.rstLine == s.cfg.rstActiveLevel

end Sys2Proof.Machine
end

