-- ==== Sys2Proof/Machine/Rounding.lean ====
section
/-! DEFINITION. The arithmetic of the scaling unit (R130): binary floating point, round to nearest even, on exact dyadic
values, and the encoding of a result as IEEE 754 bits. -/

namespace Sys2Proof.Machine

/-- A float's value, `m * 2 ^ e`. Zero is `m = 0`; no negative zero arises (R130). -/
structure Dyad where
  m : Int
  e : Int
  deriving DecidableEq, Repr

/-- The significand width in bits, the hidden bit included. -/
def fmtPrecision : ScaleFmt → Nat
  | .binary32 => 24
  | .binary64 => 53

/-- The exponent bias. -/
def fmtBias : ScaleFmt → Nat
  | .binary32 => 127
  | .binary64 => 1023

/-- The position of the sign bit. -/
def fmtSignBit : ScaleFmt → Nat
  | .binary32 => 31
  | .binary64 => 63

/-- `n / d` rounded to the nearest integer, ties to even. -/
def rneDiv (n d : Nat) : Nat :=
  if d < 2 * (n % d) ∨ (2 * (n % d) = d ∧ n / d % 2 = 1) then n / d + 1 else n / d

/-- The numerator of `(n / d) * 2 ^ k`. -/
def scaledNum (n : Nat) (k : Int) : Nat := n * 2 ^ k.toNat

/-- The denominator of `(n / d) * 2 ^ k`. -/
def scaledDen (d : Nat) (k : Int) : Nat := d * 2 ^ (-k).toNat

/-- The power of two that brings the positive rational `n / d` into `[2 ^ (p - 1), 2 ^ p)`. -/
def normShift (p n d : Nat) : Int :=
  let k : Int := (p : Int) - 1 - ((n.log2 : Int) - (d.log2 : Int))
  if scaledDen d k * 2 ^ (p - 1) ≤ scaledNum n k then k else k + 1

/-- The rational `n / d` rounded to `p` significant bits, to nearest even (R130). -/
def roundRat (p : Nat) (n : Int) (d : Nat) : Dyad :=
  if n = 0 then ⟨0, 0⟩
  else
    let k := normShift p n.natAbs d
    ⟨n.sign * (rneDiv (scaledNum n.natAbs k) (scaledDen d k) : Nat), -k⟩

/-- The numerator of a dyadic value. -/
def dyadNum (x : Dyad) : Int := x.m * 2 ^ x.e.toNat

/-- The denominator of a dyadic value. -/
def dyadDen (x : Dyad) : Nat := 2 ^ (-x.e).toNat

/-- One rounded multiply (R130). -/
def fmul (p : Nat) (x y : Dyad) : Dyad :=
  roundRat p (dyadNum x * dyadNum y) (dyadDen x * dyadDen y)

/-- One rounded add (R130). -/
def fadd (p : Nat) (x y : Dyad) : Dyad :=
  roundRat p (dyadNum x * dyadDen y + dyadNum y * dyadDen x) (dyadDen x * dyadDen y)

/-- The decimal constants of a scaling function: `K = num / den` and `O = off` (R131 to R135). -/
structure ScaleConst where
  num : Nat
  den : Nat
  off : Nat
  deriving DecidableEq, Repr

/-- `scale(raw, K, O)` of R130, with `K` rounded once, one rounded multiply, and one rounded add when `O != 0`. -/
def scale (fmt : ScaleFmt) (c : ScaleConst) (raw : Word) : Dyad :=
  let p := fmtPrecision fmt
  let x := roundRat p (s16 raw) 1
  let y := fmul p x (roundRat p c.num c.den)
  if c.off = 0 then y else fadd p y (roundRat p c.off 1)

/-- The significand of a nonzero value moved to exactly `p` bits (it has at most `p`, or is a power of two). -/
def significand (p a : Nat) : Nat :=
  if a.log2 ≤ p - 1 then a * 2 ^ (p - 1 - a.log2) else a / 2 ^ (a.log2 - (p - 1))

/-- The IEEE 754 bits of a value that is zero or normal; no other arises (R130; log 17). -/
def floatBits (fmt : ScaleFmt) (x : Dyad) : Nat :=
  if x.m = 0 then 0
  else
    let p := fmtPrecision fmt
    let a := x.m.natAbs
    (if x.m < 0 then 2 ^ fmtSignBit fmt else 0)
      + ((a.log2 : Int) + x.e + (fmtBias fmt : Int)).toNat * 2 ^ (p - 1)
      + (significand p a - 2 ^ (p - 1))

/-- The payload of a SCALE_* response: one float in `SCALE_FMT` (R74, R130). -/
def scalePayload (fmt : ScaleFmt) (c : ScaleConst) (raw : Word) : Payload :=
  match fmt with
  | .binary32 => .float32 (BitVec.ofNat 32 (floatBits .binary32 (scale .binary32 c raw)))
  | .binary64 => .float64 (BitVec.ofNat 64 (floatBits .binary64 (scale .binary64 c raw)))

/-- SCALE_ACCL: `raw × 0.5`, mg (R131). -/
def acclConst : ScaleConst := ⟨5, 10, 0⟩

/-- SCALE_GYRO: `raw × 0.005`, deg/s (R132). -/
def gyroConst : ScaleConst := ⟨5, 1000, 0⟩

/-- SCALE_TEMP: `raw × 0.01429 + 25`, °C (R133). -/
def tempConst : ScaleConst := ⟨1429, 100000, 25⟩

/-- SCALE_DANG: `raw × 0.022`, deg (R134). -/
def dangConst : ScaleConst := ⟨22, 1000, 0⟩

/-- SCALE_DVEL: `raw × 6.104`, mm/s (R135). -/
def dvelConst : ScaleConst := ⟨6104, 1000, 0⟩

end Sys2Proof.Machine
end

