-- ==== Sys2Proof/Machine/Ops.lean ====
section
/-! DEFINITION. The shared operations of the sequencer: responses and refusals, the transport fault, one event of a frame
(R83), a frame, the stall after it (R164), the reset pulse (R120), and block initialization (R105, R160). -/

namespace Sys2Proof.Machine

/-- Enter the sequencer position `x` at its first event (R21). -/
def goto (x : Fsm) (s : State) : State :=
  { s with fsm := x, fpos := .csOn, rpos := .lineOn, waiting := false, aborting := false }

/-- One event on the bus port (R7(b)). -/
def emit (e : BusEvent) (s : State) : State := { s with bus := s.bus ++ [e] }

/-- The host's turn, before each tick of the block: a `RECOVERED` ends the recovery window (R33; log 15). -/
def hostTurn (s : State) : State :=
  match s.host with
  | .recovered :: r => { s with host := r, devRecovering := false }
  | l => { s with host := l.tail }

/-- The two transitions from `S_IDLE` to the end of `S_CHECK`, each begun by the host's turn (R21, R33). -/
def checked (s : State) : State := hostTurn (hostTurn s)

/-! ### Responses, refusals and the transport fault -/

/-- `respond(status, payload)`: a response is handed over and the block is idle (R10, R74). -/
def respond (st : Status) (p : Payload) (s : State) : State :=
  goto .idle { s with responses := s.responses ++ [⟨st, xfaultOut s, p⟩] }

/-- `refuse(code)`: a response with no payload, no bus event and no other change (R10, R142). -/
def refuse (c : RefuseCode) (s : State) : State := respond (.refused c) .none s

/-- The end of a frame whose exchange failed (R143): chip-select is deasserted, `xfault` set, `dev_page` drawn, and
the operation responds `FLT_TRANSPORT` with no payload (log 24). -/
def transportFault (s : State) : State :=
  respond .fltTransport .none
    (emit (.cs false)
      { s with csLine := false, xfault := true, devPage := Config.pageDraw s.pageDraws, pageDraws := s.pageDraws + 1 })

/-- A request offered to a busy block waits at the port (R22). -/
def offer (i : Instr) (s : State) : State :=
  { s with offered := s.offered ++ [encodeRequest i] }

/-- One operation: accepted only when the block is idle, else left waiting at the port (R22; log 16). -/
def operate (i : Instr) (run : State → State) (s : State) : Host.Outcome State Fault Refusal :=
  if s.fsm = .idle then .next (run (checked s)) else .next (offer i s)

/-! ### Frames -/

/-- What the transport answers to the next `XFER` (R8). Past the end of the list, and in the recovery window (R33),
a byte is a free value (log 26); an error that is not reported is a free byte too (R89; log 19). -/
def xferAnswer (s : State) : XferAnswer :=
  match s.xport with
  | [] => .byte (Config.rxDraw s.rxDraws)
  | .silent :: _ => .silent
  | .err :: _ => if s.cfg.xportErrReporting then .err else .byte (Config.rxDraw s.rxDraws)
  | .byte b :: _ => .byte (if s.devRecovering then Config.rxDraw s.rxDraws else b)

/-- The exchange is over: its answer is used up. -/
def answered (s : State) : State := { s with xport := s.xport.tail, rxDraws := s.rxDraws + 1 }

/-- The frame at this position keeps its received bytes; all others discard them (R66, R83). -/
def captures : Fsm → Bool
  | .rdata => true
  | .bcap => true
  | _ => false

/-- The wait state that follows a frame state (R21). -/
def stallOf : Fsm → Fsm
  | .psel => .pselWait
  | .raddr => .raddrWait
  | .rdata => .rdataWait
  | .wlo => .wloWait
  | .whi => .whiWait
  | .bprime => .bprimeWait
  | .bcap => .bcapWait
  | x => x

/-- `CS(assert)`, the first event of a frame (R83). -/
def csAssert (s : State) : State := emit (.cs true) { s with csLine := true, fpos := .b0 }

/-- `r0 <- XFER(b0)` (R83); on an error, `CS(deassert)` is next (R143(a)). -/
def xferFirst (x : Fsm) (b0 : Byte) (s : State) : State :=
  match xferAnswer s with
  | .silent => s
  | .err => emit (.xferErr b0) (answered { s with fpos := .csOff, aborting := true })
  | .byte r => emit (.xfer b0 r) (answered { s with fpos := .b1, rx0 := if captures x then r else s.rx0 })

/-- `r1 <- XFER(b1)` (R83); on an error, `CS(deassert)` is next (R143(a)). -/
def xferSecond (x : Fsm) (b1 : Byte) (s : State) : State :=
  match xferAnswer s with
  | .silent => s
  | .err => emit (.xferErr b1) (answered { s with fpos := .csOff, aborting := true })
  | .byte r => emit (.xfer b1 r) (answered { s with fpos := .csOff, rx1 := if captures x then r else s.rx1 })

/-- `dev_page` after a completed frame (R28(a) to (c), R33). -/
def latchedPage (b0 b1 : Byte) (s : State) : Byte :=
  if s.devRecovering then Config.pageDraw s.pageDraws
  else if b0 = 0x80 then b1
  else if b0 = 0x81 then Config.pageDraw s.pageDraws
  else s.devPage

/-- `CS(deassert)` of a frame that completes: the device latches its page (R28), a page select writes `cur_page`
(R82), and the frame's stall is next (R21). -/
def csDeassert (x : Fsm) (b0 b1 : Byte) (s : State) : State :=
  goto (stallOf x)
    (emit (.cs false)
      { s with
        csLine := false
        devPage := latchedPage b0 b1 s
        pageDraws := s.pageDraws + 1
        curPage := if x = .psel then b1 else s.curPage })

/-- The next event of the frame `Frame(b0, b1)` of the position `x` (R21, R83). -/
def frameAct (x : Fsm) (b0 b1 : Byte) (s : State) : State :=
  match s.fpos with
  | .csOn => csAssert s
  | .b0 => xferFirst x b0 s
  | .b1 => xferSecond x b1 s
  | .csOff => if s.aborting then transportFault s else csDeassert x b0 b1 s

/-- At the position `x`, the host's turn and the frame's next event; nothing elsewhere. -/
def frameEvent (x : Fsm) (b0 b1 : Byte) (s : State) : State :=
  if s.fsm = x then frameAct x b0 b1 (hostTurn s) else s

/-- `Frame(b0, b1)` at the position `x`, its four events in order (R10, R83). If the transport does not answer, the
block stays at that event (R154; log 4); if an exchange fails, the operation ends (R143). Elsewhere it does nothing. -/
def frame (x : Fsm) (b0 b1 : Byte) (s : State) : State :=
  frameEvent x b0 b1 (frameEvent x b0 b1 (frameEvent x b0 b1 (frameEvent x b0 b1 s)))

/-! ### Stalls -/

/-- The length of the stall of a wait state (R149, R164). -/
def stallUs (x : Fsm) (c : Params) : Nat :=
  match x with
  | .bprimeWait => c.tBurstStallUs
  | .bcapWait => c.tBurstStallUs
  | _ => c.tStallUs

/-- The operation's first state (R21); for an op code that no admitted request has, `S_IDLE` (log 21). -/
def firstState (op : BitVec 4) : Fsm :=
  match op.toNat with
  | 0x0 => .raddr
  | 0x1 => .wlo
  | 0x2 => .bprime
  | 0x3 => .rst
  | 0x8 => .resp
  | 0x9 => .resp
  | 0xA => .resp
  | 0xB => .resp
  | 0xC => .resp
  | _ => .idle

/-- `rdata <- r0 ++ r1` (R84). -/
def captureRdata (s : State) : State := { s with rdata := assembleWord s.rx0 s.rx1 }

/-- `bbuf[bk - 1] <- r0 ++ r1` (R102); nothing for a `bk` outside 1 to 9 (log 21). -/
def captureBurst (s : State) : State :=
  { s with bbuf := s.bbuf.set (s.bk - 1).toNat (assembleWord s.rx0 s.rx1) }

/-- After a capture frame's stall: the next capture, or the response after the ninth (R21, R102). -/
def nextCapture (s : State) : State :=
  if s.bk.toNat < 9 then goto .bcap { s with bk := s.bk + 1 } else goto .resp s

/-- What follows the stall of the wait state `x` (R21, R84, R85, R102). -/
def afterStall (x : Fsm) (s : State) : State :=
  match x with
  | .pselWait => goto (firstState s.reqOp) s
  | .raddrWait => goto .rdata s
  | .rdataWait => goto .resp (captureRdata s)
  | .wloWait => goto .whi s
  | .whiWait => goto .resp s
  | .bprimeWait => goto .bcap { s with bk := 1 }
  | .bcapWait => nextCapture (captureBurst s)
  | _ => s

/-- The timing capability ends the next wait (R8); only `pending` does not (R154). -/
def timerEnds (s : State) : Bool :=
  match s.timer with
  | .pending :: _ => false
  | _ => true

/-- The wait is over: its answer is used up. -/
def waited (s : State) : State := { s with timer := s.timer.tail, waiting := false }

/-- A wait: `e` is emitted first, and then the block does not proceed until the timer ends the wait (R10, R154); `next`
is what follows. -/
def waitAct (e : BusEvent) (next : State → State) (s : State) : State :=
  if s.waiting then
    if timerEnds s then next (waited s) else s
  else emit e { s with waiting := true }

/-- The next thing done in the wait state `x`: `WAIT_US` is emitted, or the wait ends (R10, R164). -/
def stallAct (x : Fsm) (s : State) : State := waitAct (.waitUs (stallUs x s.cfg)) (afterStall x) s

/-- At the wait state `x`, the host's turn and the wait's next part; nothing elsewhere. -/
def stallEvent (x : Fsm) (s : State) : State := if s.fsm = x then stallAct x (hostTurn s) else s

/-- The wait state `x`: `WAIT_US` and what follows it (R10, R164). If the timer does not answer, the block stays
there (R154); elsewhere it does nothing. -/
def stall (x : Fsm) (s : State) : State := stallEvent x (stallEvent x s)

/-- A frame and its stall (R164). -/
def framePhase (x : Fsm) (b0 b1 : Byte) (s : State) : State := stall (stallOf x) (frame x b0 b1 s)

/-! ### The page decision -/

/-- Page hit: the operation's first access state; page miss: the page select (R80, R101). -/
def pageDecision (first : Fsm) (s : State) : State :=
  if s.reqPage = s.curPage then goto first s else goto .psel s

/-- `PageSelect(p)`, run only on a page miss (R81). -/
def selectPage (p : Byte) (s : State) : State := framePhase .psel 0x80 p s

/-! ### The reset pulse -/

/-- `dev_page` after a pulse of `ms` milliseconds (R122). -/
def pagePulsed (ms : Word) (s : State) : Byte :=
  if s.cfg.tRstMinUs ≤ ms.toNat * 1000 then 0x00 else Config.pageDraw s.pageDraws

/-- `RST(deassert)` and what takes effect there (R120 to R123). -/
def rstDeassert (s : State) : State :=
  goto .resp
    (emit (.rst false)
      { s with
        rstLine := false
        devPage := pagePulsed s.reqData s
        pageDraws := s.pageDraws + 1
        devRecovering := true
        curPage := if s.cfg.resetResyncsPage then 0x00 else s.curPage })

/-- The next part of `Pulse_reset(req_data)` (R10, R120). -/
def resetAct (s : State) : State :=
  match s.rpos with
  | .lineOn => emit (.rst true) { s with rstLine := true, rpos := .wait }
  | .wait => waitAct (.waitMs s.reqData.toNat) (fun t => { t with rpos := .lineOff }) s
  | .lineOff => rstDeassert s

/-- In `S_RST`, the host's turn and the pulse's next part; nothing elsewhere. -/
def resetEvent (s : State) : State := if s.fsm = .rst then resetAct (hostTurn s) else s

/-- `Pulse_reset(ms)` in order: the line asserted, the wait emitted, the wait ended, the line deasserted (R10). -/
def pulseReset (s : State) : State := resetEvent (resetEvent (resetEvent (resetEvent s)))

/-! ### The response of a completed operation -/

/-- The payload of the operation in flight (R74). -/
def resultPayload (s : State) : Payload :=
  match s.reqOp.toNat with
  | 0x0 => .word s.rdata
  | 0x2 => .sample s.bbuf
  | 0x8 => scalePayload s.cfg.scaleFmt acclConst s.reqData
  | 0x9 => scalePayload s.cfg.scaleFmt gyroConst s.reqData
  | 0xA => scalePayload s.cfg.scaleFmt tempConst s.reqData
  | 0xB => scalePayload s.cfg.scaleFmt dangConst s.reqData
  | 0xC => scalePayload s.cfg.scaleFmt dvelConst s.reqData
  | _ => .none

/-- `S_RESP`: the response of a completed operation (R21, R74). -/
def respAct (s : State) : State := respond .ok (resultPayload s) s

/-- In `S_RESP`, the host's turn and the response; nothing elsewhere. -/
def respondResult (s : State) : State := if s.fsm = .resp then respAct (hostTurn s) else s

/-! ### Block initialization -/

/-- Block initialization with raw burst offsets: an ill-formed configuration is refused (R105), else the block is in
its reset state (R160). `base` gives the other parameters. -/
def initBlock (base : Params) (addr : BurstFields Byte) (dummy : Byte) : Host.Outcome State Fault Refusal :=
  match BurstConfig.ofBytes addr dummy with
  | none => .refused .illFormedConfig
  | some b => .next (State.initial { base with burst := b })

end Sys2Proof.Machine
end

