-- ==== Sys2Proof/Machine/Sequencer.lean ====
section
/-! DEFINITION. The sequencer of R21: the admission of a request (R73, R80, R101), the bytes of the frame the position calls
for, and `tick`, one bus event or one internal transition (R30). -/

namespace Sys2Proof.Machine

/-- What an admitted request writes to the latches and where it goes (R21, R23, R80, R101, R120, R130): its op code and the
two fields of its `addr`, which is 0 where it must be; and its `data` where R23 gives `req_data` a meaning (log 12).
A frame is never a request. -/
def accept : Instr → State → State
  | .readReg page off, s => pageDecision .raddr { s with reqOp := 0x0, reqPage := page, reqOff := off }
  | .writeReg page off v, s =>
    pageDecision .wlo { s with reqOp := 0x1, reqPage := page, reqOff := off, reqData := v }
  | .readBurst, s => pageDecision .bprime { s with reqOp := 0x2, reqPage := 0x00, reqOff := 0x00 }
  | .resetDev ms, s => goto .rst { s with reqOp := 0x3, reqPage := 0x00, reqOff := 0x00, reqData := ms }
  | .scaleAccl raw, s => goto .resp { s with reqOp := 0x8, reqPage := 0x00, reqOff := 0x00, reqData := raw }
  | .scaleGyro raw, s => goto .resp { s with reqOp := 0x9, reqPage := 0x00, reqOff := 0x00, reqData := raw }
  | .scaleTemp raw, s => goto .resp { s with reqOp := 0xA, reqPage := 0x00, reqOff := 0x00, reqData := raw }
  | .scaleDang raw, s => goto .resp { s with reqOp := 0xB, reqPage := 0x00, reqOff := 0x00, reqData := raw }
  | .scaleDvel raw, s => goto .resp { s with reqOp := 0xC, reqPage := 0x00, reqOff := 0x00, reqData := raw }
  | .psel _, s => s
  | .raddr _, s => s
  | .rdata, s => s
  | .wlo _ _, s => s
  | .whi _ _, s => s
  | .breq _, s => s
  | .bend _, s => s

/-- The bytes `(b0, b1)` of the frame that the position emits, from the latches and the burst configuration (R66,
R68, R102); `(0, 0)` where the position emits none. -/
def frameBytes (s : State) : Byte × Byte :=
  match s.fsm with
  | .psel => (0x80, s.reqPage)
  | .raddr => (s.reqOff, 0x00)
  | .rdata => (0x00, 0x00)
  | .wlo => (wloB0 s.reqOff, lowByte s.reqData)
  | .whi => (whiB0 s.reqOff, highByte s.reqData)
  | .bprime => (burstTx s.cfg.burst 0, 0x00)
  | .bcap => (burstTx s.cfg.burst s.bk.toNat, 0x00)
  | _ => (0x00, 0x00)

/-- `S_IDLE`: a request at the port is accepted for checking (R21, R22); its word stays at the head of `offered` until
`S_CHECK` ends (DESIGN CHOICE, log 28). -/
def idleAct (s : State) : State :=
  match s.offered with
  | [] => s
  | _ :: _ => goto .check s

/-- `S_CHECK`: the decoder checks, then a refusal or the admission (R21, R80, R142). The accepted word is held at the head
of `offered` and leaves it here (DESIGN CHOICE, log 28). -/
def checkAct (s : State) : State :=
  match s.offered with
  | [] => goto .idle s
  | w :: r =>
    match decodeRequest w with
    | .ok i => accept i { s with offered := r }
    | .error (.refused c) => refuse c { s with offered := r }
    | .error .notAFrame => goto .idle { s with offered := r }

/-- What the block does in one step at the grain of R30: one bus event, or one transition that emits none. Where an agent
does not answer, the state stays as it is (R154). -/
def act (s : State) : State :=
  match s.fsm with
  | .idle => idleAct s
  | .check => checkAct s
  | .psel => frameAct .psel (frameBytes s).1 (frameBytes s).2 s
  | .pselWait => stallAct .pselWait s
  | .raddr => frameAct .raddr (frameBytes s).1 (frameBytes s).2 s
  | .raddrWait => stallAct .raddrWait s
  | .rdata => frameAct .rdata (frameBytes s).1 (frameBytes s).2 s
  | .rdataWait => stallAct .rdataWait s
  | .wlo => frameAct .wlo (frameBytes s).1 (frameBytes s).2 s
  | .wloWait => stallAct .wloWait s
  | .whi => frameAct .whi (frameBytes s).1 (frameBytes s).2 s
  | .whiWait => stallAct .whiWait s
  | .bprime => frameAct .bprime (frameBytes s).1 (frameBytes s).2 s
  | .bprimeWait => stallAct .bprimeWait s
  | .bcap => frameAct .bcap (frameBytes s).1 (frameBytes s).2 s
  | .bcapWait => stallAct .bcapWait s
  | .rst => resetAct s
  | .resp => respAct s

/-- One tick: the host's turn, in which it may issue `RECOVERED` at any position (R33), and one step of the block
(R30). -/
def tick (s : State) : State := act (hostTurn s)

end Sys2Proof.Machine
end

