-- ==== Sys2Proof/Machine/Access.lean ====
section
/-! DEFINITION. Single-register access: READ_REG (R84) and WRITE_REG (R85). -/

namespace Sys2Proof.Machine

/-- The frames of READ_REG, in order (R84). -/
def runReadReg (page off : Byte) (s : State) : State :=
  respondResult
    (framePhase .rdata 0x00 0x00
      (framePhase .raddr off 0x00
        (selectPage page
          (accept (.readReg page off) s))))

/-- READ_REG (R84), with the refusals of `check_off` (R47, R48). -/
def execReadReg (page off : Byte) (s : State) : Host.Outcome State Fault Refusal :=
  operate (.readReg page off)
    (fun s => match checkOff off with
      | some c => refuse c s
      | none => runReadReg page off s) s

/-- The frames of WRITE_REG, low byte first (R85). -/
def runWriteReg (page off : Byte) (v : Word) (s : State) : State :=
  respondResult
    (framePhase .whi (whiB0 off) (highByte v)
      (framePhase .wlo (wloB0 off) (lowByte v)
        (selectPage page
          (accept (.writeReg page off v) s))))

/-- WRITE_REG (R85), with the refusals of `check_off` (R47, R48). -/
def execWriteReg (page off : Byte) (v : Word) (s : State) : Host.Outcome State Fault Refusal :=
  operate (.writeReg page off v)
    (fun s => match checkOff off with
      | some c => refuse c s
      | none => runWriteReg page off v s) s

end Sys2Proof.Machine
end

