-- ==== Sys2Proof/Machine/Burst.lean ====
section
/-! DEFINITION. READ_BURST (R100 to R109). -/

namespace Sys2Proof.Machine

/-- Capture frame number `bk` and its stall (R102). -/
def captureFrame (s : State) : State := framePhase .bcap (burstTx s.cfg.burst s.bk.toNat) 0x00 s

/-- `n` capture frames in order. -/
def captureFrames : Nat → State → State
  | 0, s => s
  | n + 1, s => captureFrames n (captureFrame s)

/-- The frames of READ_BURST: the page select of R101, the priming frame and the nine captures (R102). -/
def runReadBurst (s : State) : State :=
  respondResult
    (captureFrames 9
      (framePhase .bprime (burstTx s.cfg.burst 0) 0x00
        (selectPage 0x00
          (accept .readBurst s))))

/-- READ_BURST (R102). -/
def execReadBurst (s : State) : Host.Outcome State Fault Refusal :=
  operate .readBurst runReadBurst s

end Sys2Proof.Machine
end

