-- ==== Sys2Proof/Machine/DeviceReset.lean ====
section
/-! DEFINITION. RESET_DEV (R120 to R123). -/

namespace Sys2Proof.Machine

/-- RESET_DEV (R120): the pulse of `ms` milliseconds, then the acknowledgement. -/
def execResetDev (ms : Word) (s : State) : Host.Outcome State Fault Refusal :=
  operate (.resetDev ms) (fun s => respondResult (pulseReset (accept (.resetDev ms) s))) s

end Sys2Proof.Machine
end

