-- ==== Sys2Proof/Machine/Frames.lean ====
section
/-! DEFINITION. The bus frames as operations of the sequencer (R66): each is one frame and the stall after it. At a position
that does not call for that frame, the sequencer is first put where it is emitted (log 7). -/

namespace Sys2Proof.Machine

/-- The sequencer is about to start the frame of position `x`. -/
def atFrame (x : Fsm) (s : State) : Bool := s.fsm == x && s.fpos == .csOn && !s.aborting

/-- A page select has been decided on, and its stall has not ended (R81, R165). -/
def selectPending (s : State) : Bool := s.fsm == .psel || s.fsm == .pselWait

/-- A page select broken off: an access frame could start before its stall has ended, so `dev_page` is a draw (R165, 93
I17). With none pending, nothing. -/
def breakSelect (s : State) : State :=
  if selectPending s then { s with devPage := Config.pageDraw s.pageDraws, pageDraws := s.pageDraws + 1 } else s

/-- The sequencer put where the frame `i` is emitted, with the latches it is emitted from (R66, R102; log 7); a page select
in flight is broken off (R165). A request moves nothing. -/
def placeFrame : Instr → State → State
  | .psel page, s => goto .psel { breakSelect s with reqPage := page }
  | .raddr off, s => goto .raddr { breakSelect s with reqOp := 0x0, reqOff := off }
  | .rdata, s => goto .rdata { breakSelect s with reqOp := 0x0 }
  | .wlo off lo, s => goto .wlo { breakSelect s with reqOp := 0x1, reqOff := off, reqData := highByte s.reqData ++ lo }
  | .whi off hi, s => goto .whi { breakSelect s with reqOp := 0x1, reqOff := off, reqData := hi ++ lowByte s.reqData }
  | .breq _, s => goto .bprime { breakSelect s with reqOp := 0x2 }
  | .bend _, s => goto .bcap { breakSelect s with reqOp := 0x2, bk := 9 }
  | .readReg _ _, s => s
  | .writeReg _ _ _, s => s
  | .readBurst, s => s
  | .resetDev _, s => s
  | .scaleAccl _, s => s
  | .scaleGyro _, s => s
  | .scaleTemp _, s => s
  | .scaleDang _, s => s
  | .scaleDvel _, s => s

/-- The state in which frame `i` starts: as it is when the position calls for it, else placed. -/
def startFrame (here : Bool) (i : Instr) (s : State) : State :=
  if here then s else placeFrame i s

/-- PSEL (R81): `80 page`; `cur_page` is written at its `CS(deassert)` (R82). -/
def execPsel (page : Byte) (s : State) : Host.Outcome State Fault Refusal :=
  .next (framePhase .psel 0x80 page (startFrame (atFrame .psel s) (.psel page) s))

/-- RADDR (R84): `off 00`; the received bytes are discarded. -/
def execRaddr (off : Byte) (s : State) : Host.Outcome State Fault Refusal :=
  .next (framePhase .raddr off 0x00 (startFrame (atFrame .raddr s) (.raddr off) s))

/-- RDATA (R84): `00 00`; the received bytes are the word, latched after the stall. -/
def execRdata (s : State) : Host.Outcome State Fault Refusal :=
  .next (framePhase .rdata 0x00 0x00 (startFrame (atFrame .rdata s) .rdata s))

/-- WLO (R85): `off | 80` and the low byte. -/
def execWlo (off lo : Byte) (s : State) : Host.Outcome State Fault Refusal :=
  .next (framePhase .wlo (wloB0 off) lo (startFrame (atFrame .wlo s) (.wlo off lo) s))

/-- WHI (R85): `(off + 1) | 80` and the high byte. -/
def execWhi (off hi : Byte) (s : State) : Host.Outcome State Fault Refusal :=
  .next (framePhase .whi (whiB0 off) hi (startFrame (atFrame .whi s) (.whi off hi) s))

/-- The burst position calls for a field request: the priming frame, or a capture frame with `bk <= 8` (R102). -/
def atBurstRequest (s : State) : Bool :=
  atFrame .bprime s || (atFrame .bcap s && decide (s.bk.toNat ≤ 8))

/-- BREQ (R102): `off 00`; the priming frame's bytes are discarded, a capture frame's are the previous field. -/
def execBreq (off : Byte) (s : State) : Host.Outcome State Fault Refusal :=
  .next
    (let t := startFrame (atBurstRequest s) (.breq off) s
     if t.fsm = .bprime then framePhase .bprime off 0x00 t else framePhase .bcap off 0x00 t)

/-- BEND (R102): `off 00`; its bytes are the last field. -/
def execBend (off : Byte) (s : State) : Host.Outcome State Fault Refusal :=
  .next
    (framePhase .bcap off 0x00 (startFrame (atFrame .bcap s && decide (8 < s.bk.toNat)) (.bend off) s))

end Sys2Proof.Machine
end

