-- ==== Sys2Proof/Machine/Scale.lean ====
section
/-! DEFINITION. The scaling requests (R130 to R136): no bus event, one float in the response. -/

namespace Sys2Proof.Machine

/-- SCALE_ACCL (R131). -/
def execScaleAccl (raw : Word) (s : State) : Host.Outcome State Fault Refusal :=
  operate (.scaleAccl raw) (fun s => respondResult (accept (.scaleAccl raw) s)) s

/-- SCALE_GYRO (R132). -/
def execScaleGyro (raw : Word) (s : State) : Host.Outcome State Fault Refusal :=
  operate (.scaleGyro raw) (fun s => respondResult (accept (.scaleGyro raw) s)) s

/-- SCALE_TEMP (R133). -/
def execScaleTemp (raw : Word) (s : State) : Host.Outcome State Fault Refusal :=
  operate (.scaleTemp raw) (fun s => respondResult (accept (.scaleTemp raw) s)) s

/-- SCALE_DANG (R134). -/
def execScaleDang (raw : Word) (s : State) : Host.Outcome State Fault Refusal :=
  operate (.scaleDang raw) (fun s => respondResult (accept (.scaleDang raw) s)) s

/-- SCALE_DVEL (R135). -/
def execScaleDvel (raw : Word) (s : State) : Host.Outcome State Fault Refusal :=
  operate (.scaleDvel raw) (fun s => respondResult (accept (.scaleDvel raw) s)) s

end Sys2Proof.Machine
end

