-- ==== Sys2Proof/Machine/Dispatch.lean ====
section
/-! DEFINITION. The meaning of each instruction, one arm a constructor. -/

namespace Sys2Proof.Machine

def exec (i : Instr) (s : State) : Host.Outcome State Fault Refusal :=
  match i with
  | .readReg page off => Sys2Proof.Machine.execReadReg page off s
  | .writeReg page off value => Sys2Proof.Machine.execWriteReg page off value s
  | .readBurst => Sys2Proof.Machine.execReadBurst s
  | .resetDev ms => Sys2Proof.Machine.execResetDev ms s
  | .scaleAccl raw => Sys2Proof.Machine.execScaleAccl raw s
  | .scaleGyro raw => Sys2Proof.Machine.execScaleGyro raw s
  | .scaleTemp raw => Sys2Proof.Machine.execScaleTemp raw s
  | .scaleDang raw => Sys2Proof.Machine.execScaleDang raw s
  | .scaleDvel raw => Sys2Proof.Machine.execScaleDvel raw s
  | .psel page => Sys2Proof.Machine.execPsel page s
  | .raddr off => Sys2Proof.Machine.execRaddr off s
  | .rdata => Sys2Proof.Machine.execRdata s
  | .wlo off lo => Sys2Proof.Machine.execWlo off lo s
  | .whi off hi => Sys2Proof.Machine.execWhi off hi s
  | .breq off => Sys2Proof.Machine.execBreq off s
  | .bend off => Sys2Proof.Machine.execBend off s

end Sys2Proof.Machine
end

