-- ==== Sys2Proof/Machine/Fetch.lean ====
section
/-! DEFINITION. What a step fetches: the request word at the port when the block is idle (R22), or the word of the frame the
sequencer is about to start (R66). -/

namespace Sys2Proof.Machine

/-- The kind of the frame the position emits (R21, R66). -/
def frameKindAt (s : State) : Option FrameKind :=
  match s.fsm with
  | .psel => some .psel
  | .raddr => some .raddr
  | .rdata => some .rdata
  | .wlo => some .wlo
  | .whi => some .whi
  | .bprime => some .breq
  | .bcap => some (if s.bk.toNat ≤ 8 then .breq else .bend)
  | _ => none

/-- The frame about to start, if the position is at the start of one. -/
def fetchFrame (s : State) : Option Fetched :=
  if s.fpos = .csOn ∧ s.aborting = false then
    (frameKindAt s).map fun k => .frame k (frameWord (frameBytes s).1 (frameBytes s).2)
  else none

/-- What the next step runs, if it starts an operation or a frame. -/
def fetch (s : State) : Option Fetched :=
  if s.fsm = .idle then
    match s.offered with
    | w :: _ => some (.request w)
    | [] => none
  else fetchFrame s

/-- The fetched request leaves the port; a frame is taken from the latches, which stay. -/
def taken : Fetched → State → State
  | .request _, s => { s with offered := s.offered.tail }
  | .frame _ _, s => s

/-- The idle block with the request word at the head of its port; a page select in flight is broken off (R165). -/
def offerFirst (w : ReqWord) (s : State) : State :=
  { breakSelect s with fsm := .idle, offered := w :: s.offered }

/-- A step on what was fetched: the decoded instruction runs; a refused request is answered (R142). -/
def runFetched (ex : Instr → State → Host.Outcome State Fault Refusal) (f : Fetched) (s : State) :
    Host.Outcome State Fault Refusal :=
  match decode f with
  | .ok i => ex i (taken f s)
  | .error (.refused c) => .next (refuse c (checked (taken f s)))
  | .error .notAFrame => .next (tick s)

/-- The state whose next step runs the instruction of a table word. -/
def placeTableWord (s : State) (nbits w : Nat) : State :=
  if nbits = 40 then offerFirst (BitVec.ofNat 40 w) s
  else match decodeTableWord nbits w with
    | some i => placeFrame i s
    | none => s

end Sys2Proof.Machine
end

