-- ==== Sys2Proof/Machine/Step.lean ====
section
/-! DEFINITION. One step of the machine: a whole operation when the idle block takes a request, a whole frame when the
sequencer starts one, else one tick (log 6). -/

namespace Sys2Proof.Machine

/-- One step (log 6). It never faults and never refuses: refusals and transport faults are responses (log 5). -/
def step (s : State) : Host.Outcome State Fault Refusal :=
  match fetch s with
  | some f => runFetched exec f s
  | none => .next (tick s)

/-- `s` with the table word `w` where the next step fetches: a request at the head of the port of an idle block, or
the sequencer at the frame's start with its latches (log 22). -/
def State.withFetchWord (s : State) (nbits w : Nat) : State := placeTableWord s nbits w

end Sys2Proof.Machine
end

