-- ==== Sys2Proof/Safety.lean ====
section
/-! DEFINITION. The terms claims are stated in: when the agents answer, what a frame leaves on the bus, page consistency
(R28), the sequencer's invariant (R21, R26, R153, R165), and the value of a float. -/

namespace Sys2Proof.Machine

/-- The transport and the timer answer everything they are listed to be asked (R154 does not happen). -/
abbrev State.Responsive (s : State) : Prop :=
  (∀ a ∈ s.xport, a ≠ XferAnswer.silent) ∧ ∀ a ∈ s.timer, a ≠ TimerAnswer.pending

/-- No failed exchange is reported (R143 does not happen). -/
abbrev State.NoReportedError (s : State) : Prop :=
  s.cfg.xportErrReporting = true → ∀ a ∈ s.xport, a ≠ XferAnswer.err

/-- The bytes the device sends, as far as they are listed, reach the block: `rx k` is the byte of the `k`-th exchange
from `s`. Bytes not listed, and all bytes in the recovery window (R33), are not constrained (R8). -/
def State.Receives (s : State) (rx : Nat → Byte) : Prop :=
  s.devRecovering = false → ∀ k b, s.xport[k]? = some (XferAnswer.byte b) → rx k = b

/-- The bus events of one frame and its stall (R83, R164). -/
def frameTrace (b0 b1 r0 r1 : Byte) (us : Nat) : List BusEvent :=
  [.cs true, .xfer b0 r0, .xfer b1 r1, .cs false, .waitUs us]

/-- The bus events of the page select that an access to `page` needs: none on a page hit (R86). -/
def selectTrace (s : State) (page : Byte) (rx : Nat → Byte) : List BusEvent :=
  if page = s.curPage then [] else frameTrace 0x80 page (rx 0) (rx 1) s.cfg.tStallUs

/-- How many exchanges that page select makes. -/
def selectXfers (s : State) (page : Byte) : Nat := if page = s.curPage then 0 else 2

/-- The bytes `b0`, `b1` of a frame and the length of its stall. -/
abbrev FramePlan := Byte × Byte × Nat

/-- The page-select frame that an access to `page` needs: none on a page hit (R81, R86). -/
def selectPlan (s : State) (page : Byte) : List FramePlan :=
  if page = s.curPage then [] else [(0x80, page, s.cfg.tStallUs)]

/-- The two frames of READ_REG (R84). -/
def readPlan (s : State) (off : Byte) : List FramePlan :=
  [(off, 0x00, s.cfg.tStallUs), (0x00, 0x00, s.cfg.tStallUs)]

/-- The two frames of WRITE_REG (R85). -/
def writePlan (s : State) (off : Byte) (v : Word) : List FramePlan :=
  [(off ||| 0x80, v.extractLsb' 0 8, s.cfg.tStallUs), ((off + 1) ||| 0x80, v.extractLsb' 8 8, s.cfg.tStallUs)]

/-- The ten burst frames `T0` to `T9`: `Tj` sends `BURST_ADDR[j]` for `j <= 8`, and `T9` sends `BURST_DUMMY` (R103,
R109). -/
def burstPlan (s : State) : List FramePlan :=
  let a := s.cfg.burst.addr
  [a.diag, a.alarm, a.gyroX, a.gyroY, a.gyroZ, a.acclX, a.acclY, a.acclZ, a.temp, s.cfg.burst.dummy].map
    fun o => (o.byte, 0x00, s.cfg.tBurstStallUs)

/-- The bus events of frames that complete, in order; the first exchange receives `rx k` (R83, R164). -/
def planTrace (rx : Nat → Byte) : Nat → List FramePlan → List BusEvent
  | _, [] => []
  | k, (b0, b1, us) :: fs => frameTrace b0 b1 (rx k) (rx (k + 1)) us ++ planTrace rx (k + 2) fs

/-- The bus events of these frames when exchange number `n` of them fails: the frames before it with their stalls, then
its frame up to the failed exchange and the `CS(deassert)` (R143). The first exchange receives `rx k`. -/
def brokenTrace (rx : Nat → Byte) : Nat → Nat → List FramePlan → List BusEvent
  | _, _, [] => []
  | _, 0, (b0, _, _) :: _ => [.cs true, .xferErr b0, .cs false]
  | k, 1, (b0, b1, _) :: _ => [.cs true, .xfer b0 (rx k), .xferErr b1, .cs false]
  | k, n + 2, (b0, b1, us) :: fs => frameTrace b0 b1 (rx k) (rx (k + 1)) us ++ brokenTrace rx (k + 2) n fs

/-- The page cache agrees with the device, which is not recovering (R28, R33). -/
abbrev State.PageConsistent (s : State) : Prop := s.devRecovering = false ∧ s.curPage = s.devPage

/-- The position is a frame state (R21). -/
def inFrame : Fsm → Bool
  | .psel => true
  | .raddr => true
  | .rdata => true
  | .wlo => true
  | .whi => true
  | .bprime => true
  | .bcap => true
  | _ => false

/-- The op codes that can be in flight at a position (R21, R61). -/
def opFits (x : Fsm) (op : BitVec 4) : Bool :=
  match x with
  | .idle => true
  | .check => true
  | .psel => op == 0x0 || op == 0x1 || op == 0x2
  | .pselWait => op == 0x0 || op == 0x1 || op == 0x2
  | .raddr => op == 0x0
  | .raddrWait => op == 0x0
  | .rdata => op == 0x0
  | .rdataWait => op == 0x0
  | .wlo => op == 0x1
  | .wloWait => op == 0x1
  | .whi => op == 0x1
  | .whiWait => op == 0x1
  | .bprime => op == 0x2
  | .bprimeWait => op == 0x2
  | .bcap => op == 0x2
  | .bcapWait => op == 0x2
  | .rst => op == 0x3
  | .resp => op == 0x0 || op == 0x1 || op == 0x2 || op == 0x3 || op == 0x8 || op == 0x9 || op == 0xA || op == 0xB || op == 0xC

/-- The position is past the page decision of a register access or a burst (R80, R101). -/
def pastSelect : Fsm → Bool
  | .pselWait => true
  | .raddr => true
  | .raddrWait => true
  | .rdata => true
  | .rdataWait => true
  | .wlo => true
  | .wloWait => true
  | .whi => true
  | .whiWait => true
  | .bprime => true
  | .bprimeWait => true
  | .bcap => true
  | .bcapWait => true
  | _ => false

/-- The position is a wait state (R21). -/
def inWait : Fsm → Bool
  | .pselWait => true
  | .raddrWait => true
  | .rdataWait => true
  | .wloWait => true
  | .whiWait => true
  | .bprimeWait => true
  | .bcapWait => true
  | _ => false

/-- The position is in a register access or a burst, from the page select to the response. -/
def inAccess (x : Fsm) : Bool := x == .psel || pastSelect x

/-- The sequencer's invariant. -/
structure State.Inv (s : State) : Prop where
  /-- Chip-select is asserted exactly inside a frame (R83, R153). -/
  cs : s.csLine = true ↔ s.fpos ≠ .csOn
  /-- A sub-position other than `CS_ON` occurs only in a frame state (R21). -/
  fposFrame : s.fpos ≠ .csOn → inFrame s.fsm = true
  /-- The reset line is asserted exactly inside a pulse (R120, R153). -/
  rst : s.rstLine = true ↔ s.rpos ≠ .lineOn
  /-- A pulse is in flight only in `S_RST` (R21). -/
  rposRst : s.rpos ≠ .lineOn → s.fsm = .rst
  /-- A wait has been emitted and not ended only in a wait state or inside a pulse (R10, R21). -/
  waiting : s.waiting = true → inWait s.fsm = true ∨ s.rpos = .wait
  /-- A frame is given up only after a reported error, just before its `CS(deassert)` (R143). -/
  abort : s.aborting = true → s.fpos = .csOff ∧ s.cfg.xportErrReporting = true
  /-- `xfault` exists only with `XPORT_ERR_REPORTING` (R26). -/
  xfault : s.xfault = true → s.cfg.xportErrReporting = true
  /-- The latched op code is one of the operation the position belongs to (R21, R23). -/
  op : opFits s.fsm s.reqOp = true
  /-- A register access in flight has an admitted offset (R47, R48). -/
  off : inAccess s.fsm = true → s.reqOp ≠ 0x2 → admittedOff s.reqOff = true
  /-- A burst in flight is on page 0 (R101). -/
  burstPage : inAccess s.fsm = true → s.reqOp = 0x2 → s.reqPage = 0x00
  /-- An access frame is only reached with its page selected (R81, R86, R165). -/
  page : pastSelect s.fsm = true → s.curPage = s.reqPage
  /-- The capture counter is 1 to 9 in the capture states (R25). -/
  bk : s.fsm = .bcap ∨ s.fsm = .bcapWait → 1 ≤ s.bk.toNat ∧ s.bk.toNat ≤ 9
  /-- The request under check is at the port (R21; log 28). -/
  port : s.fsm = .check → s.offered ≠ []

/-- The rational value of a dyadic number. -/
def Dyad.val (x : Dyad) : ℚ := (x.m : ℚ) * (2 : ℚ) ^ x.e

/-- The exact reference value `raw * K + O` (R130). -/
def exactScale (c : ScaleConst) (raw : Word) : ℚ :=
  (s16 raw : ℚ) * ((c.num : ℚ) / (c.den : ℚ)) + (c.off : ℚ)

/-- The value of normal or zero IEEE 754 bits with `p` significand bits, the given bias and the sign at bit `sgn`. -/
def ieeeValue (p bias sgn bits : Nat) : ℚ :=
  let sign : ℚ := if bits / 2 ^ sgn = 1 then -1 else 1
  let expo : Nat := bits % 2 ^ sgn / 2 ^ (p - 1)
  let frac : Nat := bits % 2 ^ (p - 1)
  if expo = 0 ∧ frac = 0 then 0
  else sign * ((2 ^ (p - 1) + frac : Nat) : ℚ) * (2 : ℚ) ^ ((expo : Int) - (bias : Int) - ((p : Int) - 1))

end Sys2Proof.Machine
end

