-- ==== Sys2Proof/Certificates/Slice0/Obligations.lean ====
section
/-! DEFINITION. The statements for the provers. Each docstring cites the rules of spec/ it formalises; where a statement rests on
a choice of the model it names the log entry. A next state is written as `s` with the fields that change; a field set
to `t`'s own value is one the statement leaves open. -/

open Sys2Proof Sys2Proof.Machine

/-! ### Encoding -/

/-- R60, R61, R66: words written out from the tables decode to what they stand for. -/
def Obligations.WordsOfTheTableDecode : Prop :=
  decode (.request 0x0003120000) = .ok (.readReg 0x03 0x12) ∧
  decode (.request 0x1003101234) = .ok (.writeReg 0x03 0x10 0x1234) ∧
  decode (.request 0x2000000000) = .ok .readBurst ∧
  decode (.request 0x300000000A) = .ok (.resetDev 10) ∧
  decode (.request 0x800000FFFF) = .ok (.scaleAccl 0xFFFF) ∧
  decode (.request 0xC000000064) = .ok (.scaleDvel 100) ∧
  decode (.frame .psel 0x8003) = .ok (.psel 0x03) ∧
  decode (.frame .raddr 0x1200) = .ok (.raddr 0x12) ∧
  decode (.frame .rdata 0x0000) = .ok .rdata ∧
  decode (.frame .wlo 0x9034) = .ok (.wlo 0x10 0x34) ∧
  decode (.frame .whi 0x9112) = .ok (.whi 0x10 0x12) ∧
  decode (.frame .breq 0x0A00) = .ok (.breq 0x0A) ∧
  decode (.frame .bend 0x0000) = .ok (.bend 0x00)

/-- Decode and encode agree, for every well-formed instruction with every operand (R60 to R66). -/
def Obligations.DecodeUndoesEncode : Prop :=
  ∀ i : Instr, i.wellFormed = true → decode (encode i) = .ok i

/-- The decoding is canonical: what decodes is the encoding of a well-formed instruction, so no two words decode to
one instruction (R62). For frames, "word" means the word at its position (log 8). -/
def Obligations.EncodeUndoesDecode : Prop :=
  ∀ (f : Fetched) (i : Instr), decode f = .ok i → encode i = f ∧ i.wellFormed = true

/-- R73, R144: a request reports the first failing check in the order reserved, nonzero field, misaligned, bit 7; with
none failing it is the operation of its op code, with its operands. -/
def Obligations.RefusalsFollowThePriority : Prop :=
  ∀ w : ReqWord,
    let op := (w.extractLsb' 36 4).toNat
    let addr := w.extractLsb' 16 16
    let data := w.extractLsb' 0 16
    let reserved := w.extractLsb' 32 4 ≠ 0 ∨ (4 ≤ op ∧ op ≤ 7) ∨ 0xD ≤ op
    let nonzero := (op = 0 ∧ data ≠ 0) ∨ (op = 2 ∧ (addr ≠ 0 ∨ data ≠ 0)) ∨
      ((op = 3 ∨ (8 ≤ op ∧ op ≤ 0xC)) ∧ addr ≠ 0)
    let misaligned := (op = 0 ∨ op = 1) ∧ addr.getLsbD 0 = true
    let bit7 := (op = 0 ∨ op = 1) ∧ addr.getLsbD 7 = true
    (reserved → decodeRequest w = .error (.refused .reservedOp)) ∧
    (¬reserved → nonzero → decodeRequest w = .error (.refused .nonzeroField)) ∧
    (¬reserved → ¬nonzero → misaligned → decodeRequest w = .error (.refused .misaligned)) ∧
    (¬reserved → ¬nonzero → ¬misaligned → bit7 → decodeRequest w = .error (.refused .offsetBit7)) ∧
    (¬reserved → ¬nonzero → ¬misaligned → ¬bit7 → decodeRequest w = .ok
      (match op with
        | 0x0 => .readReg (addr.extractLsb' 8 8) (addr.extractLsb' 0 8)
        | 0x1 => .writeReg (addr.extractLsb' 8 8) (addr.extractLsb' 0 8) data
        | 0x2 => .readBurst
        | 0x3 => .resetDev data
        | 0x8 => .scaleAccl data
        | 0x9 => .scaleGyro data
        | 0xA => .scaleTemp data
        | 0xB => .scaleDang data
        | _ => .scaleDvel data))

/-- R60, R61: a request word is an operation exactly when it matches that row of the opcode table, with the operands
in the row's fields. -/
def Obligations.RequestWordsMatchTheirRow : Prop :=
  ∀ w : ReqWord,
    (w &&& 0xFF0081FFFF = 0x0000000000 ↔
      decodeRequest w = .ok (.readReg (w.extractLsb' 24 8) (w.extractLsb' 16 8))) ∧
    (w &&& 0xFF00810000 = 0x1000000000 ↔
      decodeRequest w = .ok (.writeReg (w.extractLsb' 24 8) (w.extractLsb' 16 8) (w.extractLsb' 0 16))) ∧
    (w = 0x2000000000 ↔ decodeRequest w = .ok .readBurst) ∧
    (w &&& 0xFFFFFF0000 = 0x3000000000 ↔ decodeRequest w = .ok (.resetDev (w.extractLsb' 0 16))) ∧
    (w &&& 0xFFFFFF0000 = 0x8000000000 ↔ decodeRequest w = .ok (.scaleAccl (w.extractLsb' 0 16))) ∧
    (w &&& 0xFFFFFF0000 = 0x9000000000 ↔ decodeRequest w = .ok (.scaleGyro (w.extractLsb' 0 16))) ∧
    (w &&& 0xFFFFFF0000 = 0xA000000000 ↔ decodeRequest w = .ok (.scaleTemp (w.extractLsb' 0 16))) ∧
    (w &&& 0xFFFFFF0000 = 0xB000000000 ↔ decodeRequest w = .ok (.scaleDang (w.extractLsb' 0 16))) ∧
    (w &&& 0xFFFFFF0000 = 0xC000000000 ↔ decodeRequest w = .ok (.scaleDvel (w.extractLsb' 0 16)))

/-- R66, R105: a frame word is read at a position exactly when it matches that row of the opcode table. -/
def Obligations.FrameWordsMatchTheirRow : Prop :=
  ∀ w : FrameWord,
    ((decodeFrame .psel w).isSome = true ↔ w &&& 0xFF00 = 0x8000) ∧
    ((decodeFrame .raddr w).isSome = true ↔ w &&& 0x81FF = 0x0000) ∧
    ((decodeFrame .rdata w).isSome = true ↔ w = 0x0000) ∧
    ((decodeFrame .wlo w).isSome = true ↔ w &&& 0x8100 = 0x8000) ∧
    ((decodeFrame .whi w).isSome = true ↔ w &&& 0x8100 = 0x8100) ∧
    ((decodeFrame .breq w).isSome = true ↔ w &&& 0x81FF = 0x0000) ∧
    ((decodeFrame .bend w).isSome = true ↔ w &&& 0x81FF = 0x0000)

/-- R68: for an admitted offset the write frames' address bytes are `off + 0x80` and `off + 0x81`, with no wrap. -/
def Obligations.WriteAddressBytesNeverWrap : Prop :=
  ∀ off : Byte, admittedOff off = true →
    (wloB0 off).toNat = off.toNat + 0x80 ∧ (whiB0 off).toNat = off.toNat + 0x81

/-- R44, R67: the received word is `r0 ++ r1` read as signed 16-bit, and widening it sign-extends. -/
def Obligations.ReceivedWordIsSigned : Prop :=
  ∀ r0 r1 : Byte,
    s16 (assembleWord r0 r1) =
      (r0.toNat : Int) * 256 + r1.toNat - (if 128 ≤ r0.toNat then 65536 else 0) ∧
    (sext32 (assembleWord r0 r1)).toInt = s16 (assembleWord r0 r1)

/-- R43: the eight bits of a byte go on the wire most significant first. -/
def Obligations.BitsGoMostSignificantFirst : Prop :=
  ∀ b : Byte, (wireBits b).length = 8 ∧ (wireBits b).foldl (fun n x => 2 * n + x.toNat) 0 = b.toNat

/-! ### Reset and configuration -/

/-- R20, R21, R22, R26, R32, R160: what block initialization leaves, for the values the spec gives. -/
def Obligations.BlockInitialization : Prop :=
  ∀ cfg : Params,
    let s := State.initial cfg
    s.curPage = 0x00 ∧ s.fsm = .idle ∧ s.fpos = .csOn ∧ s.busy = false ∧ s.xfault = false ∧
    s.csLine = false ∧ s.rstLine = false ∧ s.bus = [] ∧
    csPin s = !cfg.csActiveLevel ∧ rstPin s = !cfg.rstActiveLevel

/-- R105: a burst configuration is accepted exactly when all ten raw offsets have bit 7 and bit 0 clear, and is then
held as given; otherwise it is refused at construction. -/
def Obligations.IllFormedConfigurationIsRefused : Prop :=
  ∀ (base : Params) (addr : BurstFields Byte) (dummy : Byte),
    let good := admittedOff addr.diag = true ∧ admittedOff addr.alarm = true ∧ admittedOff addr.gyroX = true ∧
      admittedOff addr.gyroY = true ∧ admittedOff addr.gyroZ = true ∧ admittedOff addr.acclX = true ∧
      admittedOff addr.acclY = true ∧ admittedOff addr.acclZ = true ∧ admittedOff addr.temp = true ∧
      admittedOff dummy = true
    (¬good → initBlock base addr dummy = .refused .illFormedConfig) ∧
    (good → ∃ b : BurstConfig,
      initBlock base addr dummy = .next (State.initial { base with burst := b }) ∧
      b.addr.diag.byte = addr.diag ∧ b.addr.alarm.byte = addr.alarm ∧ b.addr.gyroX.byte = addr.gyroX ∧
      b.addr.gyroY.byte = addr.gyroY ∧ b.addr.gyroZ.byte = addr.gyroZ ∧ b.addr.acclX.byte = addr.acclX ∧
      b.addr.acclY.byte = addr.acclY ∧ b.addr.acclZ.byte = addr.acclZ ∧ b.addr.temp.byte = addr.temp ∧
      b.dummy.byte = dummy)

/-- R66, R103, R105: burst frame `Tj` sends `BURST_ADDR[j]` for `j <= 8` and `T9` sends `BURST_DUMMY`; every one is a
read request for an even offset, whatever the configuration. -/
def Obligations.BurstOffsetsAreReadRequests : Prop :=
  ∀ c : BurstConfig,
    (List.range 10).map (burstTx c) =
      [c.addr.diag.byte, c.addr.alarm.byte, c.addr.gyroX.byte, c.addr.gyroY.byte, c.addr.gyroZ.byte,
        c.addr.acclX.byte, c.addr.acclY.byte, c.addr.acclZ.byte, c.addr.temp.byte, c.dummy.byte] ∧
    ∀ bk : Nat, admittedOff (burstTx c bk) = true

/-- R74, R141: each status has the code of R141's table and is read back from it, and a code the block never produces
faults in the model (93 I15, log 20). -/
def Obligations.StatusCodesRoundTrip : Prop :=
  statusCode .ok = 0x0 ∧
  statusCode (.refused .reservedOp) = 0x1 ∧
  statusCode (.refused .nonzeroField) = 0x2 ∧
  statusCode (.refused .misaligned) = 0x3 ∧
  statusCode (.refused .offsetBit7) = 0x4 ∧
  statusCode .fltTransport = 0x8 ∧
  (∀ st : Status, statusOfCode (statusCode st) = .ok st) ∧
  (∀ c : BitVec 4, (5 ≤ c.toNat ∧ c.toNat ≤ 7) ∨ 9 ≤ c.toNat → statusOfCode c = .error (.unknownStatus c))

/-! ### The step -/

/-- A step runs the decoded instruction: what is fetched is the request word at the head of the port of an idle block
(R22), or the frame the sequencer is about to start (R66); if it decodes, the step is the instruction's meaning on
the state with the request taken from the port (log 6). -/
def Obligations.StepRunsTheDecodedInstruction : Prop :=
  (∀ (s : State) (f : Fetched) (i : Instr), fetch s = some f → decode f = .ok i →
    step s = exec i (taken f s)) ∧
  (∀ (s : State) (w : ReqWord) (rest : List ReqWord), s.fsm = .idle → s.offered = w :: rest →
    fetch s = some (.request w) ∧ taken (.request w) s = { s with offered := rest }) ∧
  (∀ (s : State) (k : FrameKind), inFrame s.fsm = true → s.fpos = .csOn → s.aborting = false →
    frameKindAt s = some k →
    fetch s = some (.frame k (frameWord (frameBytes s).1 (frameBytes s).2)) ∧
    ∀ f, fetch s = some f → taken f s = s)

/-- The next step after `withFetchWord` runs the table word's instruction (log 22); where a page select in flight is
broken off for it, the device's page is open (R165). -/
def Obligations.PlacedTableWordRunsNext : Prop :=
  (∀ (s : State) (w : Nat) (i : Instr), decodeTableWord 40 w = some i →
    step (s.withFetchWord 40 w) = exec i { breakSelect s with fsm := .idle }) ∧
  (∀ (s : State) (w : Nat) (i : Instr), decodeTableWord 16 w = some i →
    step (s.withFetchWord 16 w) = exec i (placeFrame i s)) ∧
  (∀ s : State, s.fsm = .psel ∨ s.fsm = .pselWait →
    breakSelect s = { s with devPage := Config.pageDraw s.pageDraws, pageDraws := s.pageDraws + 1 }) ∧
  (∀ s : State, s.fsm ≠ .psel → s.fsm ≠ .pselWait → breakSelect s = s)

/-- R30 "advances one bus event per step in the order its operation rule gives": a tick emits at most one bus event and
takes back none. -/
def Obligations.TickEmitsAtMostOneEvent : Prop :=
  ∀ s : State, ∃ l : List BusEvent, l.length ≤ 1 ∧ (tick s).bus = s.bus ++ l

/-- R21, R30: every step, an operation or a frame as a whole, is a sequence of ticks, so the operations of 40, 41 and 42
and the sequencer table of R21 describe one machine (log 6). -/
def Obligations.EveryStepIsASequenceOfTicks : Prop :=
  ∀ s t : State, step s = .next t → ∃ n : Nat, t = tick^[n] s

/-- R140, R145: no step stops the machine, and none writes the parameters (R5). The outcome kinds of R140 are carried by
responses (log 5). -/
def Obligations.EveryStepGoesOn : Prop :=
  ∀ s : State, ∃ t : State, step s = .next t ∧ t.cfg = s.cfg

/-- R31, R54, R171: responses handed over are never changed, a step hands over at most one, and the bus stream only
grows. -/
def Obligations.ResponsesAndBusOnlyGrow : Prop :=
  ∀ s t : State, step s = .next t →
    (∃ l : List Response, l.length ≤ 1 ∧ t.responses = s.responses ++ l) ∧ ∃ l : List BusEvent, t.bus = s.bus ++ l

/-- R26, R74, R143: `xfault` is sticky under every step, and is set only by a step that responds `FLT_TRANSPORT`. With
`XPORT_ERR_REPORTING` every response a step hands over carries the flag as the step leaves it; without it the flag
never changes and no response carries it (log 18). The last part is over states that meet the sequencer's invariant,
in which no exchange has failed without reporting. -/
def Obligations.XfaultIsSticky : Prop :=
  ∀ s t : State, step s = .next t →
    (s.xfault = true → t.xfault = true) ∧
    (s.xfault = false → t.xfault = true →
      ∃ r : Response, t.responses = s.responses ++ [r] ∧ r.status = .fltTransport) ∧
    (s.cfg.xportErrReporting = true →
      ∃ l : List Response, t.responses = s.responses ++ l ∧ ∀ r ∈ l, r.xfault = some t.xfault) ∧
    (s.Inv → s.cfg.xportErrReporting = false →
      t.xfault = s.xfault ∧ ∃ l : List Response, t.responses = s.responses ++ l ∧ ∀ r ∈ l, r.xfault = none)

/-- The sequencer's invariant holds after block initialization (R32). -/
def Obligations.ReferenceStateSatisfiesTheInvariant : Prop :=
  ∀ cfg : Params, (State.initial cfg).Inv

/-- R21, R26, R86, R101, R143, R153, R165: every step keeps the sequencer's invariant, and so does every tick. In particular
an access frame is only reached with its page selected, and between requests both lines are deasserted. That the
request under check is at the port in `S_CHECK` is the model's choice (log 28). -/
def Obligations.EveryStepKeepsTheSequencerInvariant : Prop :=
  ∀ s : State, s.Inv → (tick s).Inv ∧ ∀ t : State, step s = .next t → t.Inv

/-- R22: a busy block takes no request: an offered one waits at the port, and no step of an operation in flight changes
the port (in `S_CHECK` its head is the accepted request, log 28). -/
def Obligations.BusyBlockTakesNoRequest : Prop :=
  (∀ (i : Instr) (s : State), i.isRequest = true → s.fsm ≠ .idle →
    exec i s = .next { s with offered := s.offered ++ [encodeRequest i] }) ∧
  (∀ s t : State, s.fsm ≠ .idle → s.fsm ≠ .check → step s = .next t → t.offered = s.offered)

/-- R153, R160: an idle block with nothing offered stays as it is; only the host's turn passes (R33, log 15). -/
def Obligations.IdleBlockWaits : Prop :=
  ∀ s : State, s.fsm = .idle → s.offered = [] →
    step s = .next
      { s with
        host := s.host.tail
        devRecovering := s.devRecovering && s.host.head? != some .recovered }

/-- R154: while the transport does not answer an exchange, or the timer a wait that has been emitted, the block stays
where it is; only the host's turn passes (log 4, log 15). -/
def Obligations.UnansweredBlockIsStuck : Prop :=
  ∀ s : State,
    (inFrame s.fsm = true ∧ (s.fpos = .b0 ∨ s.fpos = .b1) ∧ ∃ l, s.xport = XferAnswer.silent :: l) ∨
      (inWait s.fsm = true ∧ s.waiting = true ∧ ∃ l, s.timer = TimerAnswer.pending :: l) ∨
      (s.fsm = .rst ∧ s.rpos = .wait ∧ s.waiting = true ∧ ∃ l, s.timer = TimerAnswer.pending :: l) →
    step s = .next
      { s with
        host := s.host.tail
        devRecovering := s.devRecovering && s.host.head? != some .recovered }

/-- R33: the host's `RECOVERED` ends the recovery window before any tick, whatever the position, and that is all it
does; every tick passes one turn of the host (log 15), and nothing else ends the window. -/
def Obligations.RecoveredEndsTheWindow : Prop :=
  (∀ (s : State) (rest : List HostTurn), s.host = .recovered :: rest →
    tick s = tick { s with host := .quiet :: rest, devRecovering := false }) ∧
  (∀ s : State, (tick s).host = s.host.tail) ∧
  (∀ s : State, s.devRecovering = true → (tick s).devRecovering = false → ∃ rest, s.host = .recovered :: rest)

/-- R20, R82, R121: a tick writes `cur_page` only at the `CS(deassert)` of a page-select frame none of whose exchanges
failed, which leaves it at the latched page and the stall still to come, or, with `RESET_RESYNCS_PAGE`, at the
`RST(deassert)` of a reset, which leaves it at 0. -/
def Obligations.CurPageIsWrittenAtTheDeassert : Prop :=
  (∀ s : State, s.fsm = .psel →
    (tick s).curPage = if s.fpos = .csOff ∧ s.aborting = false then s.reqPage else s.curPage) ∧
  (∀ s : State, s.fsm = .psel → s.fpos = .csOff → s.aborting = false →
    (tick s).fsm = .pselWait ∧ (tick s).bus = s.bus ++ [.cs false]) ∧
  (∀ s : State, s.fsm = .rst → s.rpos = .lineOff →
    (tick s).curPage = if s.cfg.resetResyncsPage then 0x00 else s.curPage) ∧
  (∀ s : State, s.fsm ≠ .psel → ¬(s.fsm = .rst ∧ s.rpos = .lineOff) → (tick s).curPage = s.curPage)

/-- R28, R33, R122, R143: the device's page at a tick. Outside the recovery window a completed frame with `b0 = 0x80` moves
it to `b1`, one with `b0 = 0x81` leaves it open, any other leaves it; in the window every completed frame leaves it
open, and so does a failed frame; no tick but a frame's end and a reset pulse's end moves it. That a failed frame's
draw falls at its `CS(deassert)`, and not at the failed exchange, is the model's choice: R143 does not order it
(log 24). That the window is the one after the host's turn is the model's too (log 15). -/
def Obligations.DevicePageFollowsTheFrames : Prop :=
  (∀ s : State, inFrame s.fsm = true → s.fpos = .csOff → s.aborting = false →
    (s.devRecovering = false ∨ s.host.head? = some .recovered) →
    ((frameBytes s).1 = 0x80 → (tick s).devPage = (frameBytes s).2) ∧
    ((frameBytes s).1 = 0x81 → ∃ d, (tick s).devPage = Config.pageDraw d) ∧
    ((frameBytes s).1 ≠ 0x80 → (frameBytes s).1 ≠ 0x81 → (tick s).devPage = s.devPage)) ∧
  (∀ s : State, inFrame s.fsm = true → s.fpos = .csOff →
    s.aborting = true ∨ (s.devRecovering = true ∧ s.host.head? ≠ some .recovered) →
    ∃ d, (tick s).devPage = Config.pageDraw d) ∧
  (∀ s : State, ¬(inFrame s.fsm = true ∧ s.fpos = .csOff) → ¬(s.fsm = .rst ∧ s.rpos = .lineOff) →
    (tick s).devPage = s.devPage)

/-- R164, R149, R10: every completed frame leads to its wait state; there the wait is emitted, `T_STALL_US` after
page-select, address, data and write frames and `T_BURST_STALL_US` after burst frames, and the block stays until the
timer ends it. No other event comes in between. -/
def Obligations.EveryFrameIsFollowedByItsStall : Prop :=
  (∀ s : State, inFrame s.fsm = true → s.fpos = .csOff → s.aborting = false →
    (tick s).fsm = stallOf s.fsm ∧ (tick s).waiting = false ∧ (tick s).bus = s.bus ++ [.cs false]) ∧
  (∀ (s : State) (x : Fsm), inFrame x = true → s.fsm = stallOf x → s.waiting = false →
    (tick s).fsm = stallOf x ∧ (tick s).waiting = true ∧
    (tick s).bus = s.bus ++
      [.waitUs (if x = .bprime ∨ x = .bcap then s.cfg.tBurstStallUs else s.cfg.tStallUs)]) ∧
  (∀ (s : State) (x : Fsm), inFrame x = true → s.fsm = stallOf x → s.waiting = true →
    (tick s).bus = s.bus ∧
    ((∃ l, s.timer = TimerAnswer.pending :: l) → (tick s).fsm = stallOf x ∧ (tick s).waiting = true) ∧
    ((∀ l, s.timer ≠ TimerAnswer.pending :: l) → (tick s).fsm ≠ stallOf x))

/-! ### Refusals -/

/-- R142: a request that fails the decoder checks is answered with its code and no payload; no bus event is emitted and
nothing else of the block changes but that the request has left the port. So it is from `S_IDLE`, and from `S_CHECK`.
What the host does meanwhile is left open. That the accepted request is the head of the port in `S_CHECK` is the
model's choice (log 28). -/
def Obligations.RefusedRequestChangesNothing : Prop :=
  ∀ (s : State) (w : ReqWord) (rest : List ReqWord) (c : RefuseCode),
    s.fsm = .idle ∨ s.fsm = .check → s.offered = w :: rest → decodeRequest w = .error (.refused c) →
    ∃ t : State, step s = .next t ∧
      t = { s with
        offered := rest
        host := t.host, devRecovering := t.devRecovering
        fsm := .idle, fpos := .csOn, rpos := .lineOn, waiting := false, aborting := false
        responses := s.responses ++ [⟨.refused c, xfaultOut s, .none⟩] }

/-- R47, R48, R144: an access with an odd offset, or an even one with bit 7 set, is answered with its code, emits no bus
event and changes no other state of the block. What the host does meanwhile is left open. -/
def Obligations.UnadmittedOffsetIsRefused : Prop :=
  ∀ (s : State) (page off : Byte) (v : Word) (c : RefuseCode), s.fsm = .idle →
    (off.getLsbD 0 = true ∧ c = .misaligned) ∨
      (off.getLsbD 0 = false ∧ off.getLsbD 7 = true ∧ c = .offsetBit7) →
    ∃ t : State, exec (.readReg page off) s = .next t ∧ exec (.writeReg page off v) s = .next t ∧
      t = { s with
        host := t.host, devRecovering := t.devRecovering
        fsm := .idle, fpos := .csOn, rpos := .lineOn, waiting := false, aborting := false
        responses := s.responses ++ [⟨.refused c, xfaultOut s, .none⟩] }

/-! ### The requests complete -/

/-- R84: READ_REG selects the page on a miss, sends the address frame and the data frame, each followed by its stall,
and returns the word of the data frame. Everything it does not write is unchanged.
Which latches it writes is the model's reading (log 12), and so is what is answered past the lists (log 2, log 3). -/
def Obligations.ReadRegReturnsTheDataWord : Prop :=
  ∀ (s : State) (page off : Byte), s.fsm = .idle → admittedOff off = true → s.Responsive → s.NoReportedError →
    ∃ (rx : Nat → Byte) (t : State), exec (.readReg page off) s = .next t ∧ s.Receives rx ∧
      let n := selectXfers s page
      let word := assembleWord (rx (n + 2)) (rx (n + 3))
      t = { s with
        fsm := .idle, fpos := .csOn, rpos := .lineOn, waiting := false, aborting := false, csLine := false
        reqOp := 0x0, reqPage := page, reqOff := off
        curPage := page
        rdata := word
        rx0 := rx (n + 2), rx1 := rx (n + 3)
        devPage := t.devPage, devRecovering := t.devRecovering
        rxDraws := t.rxDraws, pageDraws := t.pageDraws
        xport := s.xport.drop (n + 4), timer := s.timer.drop (n / 2 + 2), host := s.host.drop (3 * n + 15)
        bus := s.bus ++ selectTrace s page rx ++
          frameTrace off 0x00 (rx n) (rx (n + 1)) s.cfg.tStallUs ++
          frameTrace 0x00 0x00 (rx (n + 2)) (rx (n + 3)) s.cfg.tStallUs
        responses := s.responses ++ [⟨.ok, xfaultOut s, .word word⟩] } ∧
      (s.devRecovering = false →
        t.devRecovering = false ∧ t.devPage = if page = s.curPage then s.devPage else page)

/-- R45, R85, R87: WRITE_REG selects the page on a miss and sends the low byte to `off | 0x80`, then the high byte to
`(off + 1) | 0x80`, each followed by its stall; it acknowledges with no payload. Everything it does not write is
unchanged. The device's page follows the low byte and is then open when `off = 0`, the page-select register.
Which latches it writes is the model's reading (log 12), and so is what is answered past the lists (log 2, log 3). -/
def Obligations.WriteRegSendsLowThenHighByte : Prop :=
  ∀ (s : State) (page off : Byte) (v : Word), s.fsm = .idle → admittedOff off = true → s.Responsive →
    s.NoReportedError →
    ∃ (rx : Nat → Byte) (t : State), exec (.writeReg page off v) s = .next t ∧ s.Receives rx ∧
      let n := selectXfers s page
      t = { s with
        fsm := .idle, fpos := .csOn, rpos := .lineOn, waiting := false, aborting := false, csLine := false
        reqOp := 0x1, reqPage := page, reqOff := off, reqData := v
        curPage := page
        devPage := t.devPage, devRecovering := t.devRecovering
        rxDraws := t.rxDraws, pageDraws := t.pageDraws
        xport := s.xport.drop (n + 4), timer := s.timer.drop (n / 2 + 2), host := s.host.drop (3 * n + 15)
        bus := s.bus ++ selectTrace s page rx ++
          frameTrace (off ||| 0x80) (v.extractLsb' 0 8) (rx n) (rx (n + 1)) s.cfg.tStallUs ++
          frameTrace ((off + 1) ||| 0x80) (v.extractLsb' 8 8) (rx (n + 2)) (rx (n + 3)) s.cfg.tStallUs
        responses := s.responses ++ [⟨.ok, xfaultOut s, .none⟩] } ∧
      (s.devRecovering = false →
        t.devRecovering = false ∧
        (off ≠ 0x00 → t.devPage = if page = s.curPage then s.devPage else page) ∧
        (off = 0x00 → ∃ d : Nat, t.devPage = Config.pageDraw d))

/-- R101 to R104, R106, R108, R109: READ_BURST selects page 0 unless it is current, sends the priming frame and nine capture
frames, each its own chip-select assertion with filler `0x00` and followed by the burst stall, and returns at once
the nine words, field `i` from frame `T(i+1)`. Everything it does not write is unchanged.
Which latches it writes is the model's reading (log 12), and so is what is answered past the lists (log 2, log 3). -/
def Obligations.ReadBurstReturnsNineWords : Prop :=
  ∀ s : State, s.fsm = .idle → s.Responsive → s.NoReportedError →
    ∃ (rx : Nat → Byte) (t : State), exec .readBurst s = .next t ∧ s.Receives rx ∧
      let n := selectXfers s 0x00
      let word := fun i : Nat => assembleWord (rx (n + 2 * (i + 1))) (rx (n + 2 * (i + 1) + 1))
      let sample : BurstFields Word :=
        ⟨word 0, word 1, word 2, word 3, word 4, word 5, word 6, word 7, word 8⟩
      t = { s with
        fsm := .idle, fpos := .csOn, rpos := .lineOn, waiting := false, aborting := false, csLine := false
        reqOp := 0x2, reqPage := 0x00, reqOff := 0x00
        curPage := 0x00
        bbuf := sample, bk := 9
        rx0 := rx (n + 18), rx1 := rx (n + 19)
        devPage := t.devPage, devRecovering := t.devRecovering
        rxDraws := t.rxDraws, pageDraws := t.pageDraws
        xport := s.xport.drop (n + 20), timer := s.timer.drop (n / 2 + 10), host := s.host.drop (3 * n + 63)
        bus := s.bus ++ selectTrace s 0x00 rx ++
          planTrace rx n (burstPlan s)
        responses := s.responses ++ [⟨.ok, xfaultOut s, .sample sample⟩] } ∧
      (s.devRecovering = false →
        t.devRecovering = false ∧ t.devPage = if 0x00 = s.curPage then s.devPage else 0x00)

/-- R120 to R123: RESET_DEV asserts the reset line, waits its operand in milliseconds, deasserts it and acknowledges,
with no wait after it; `cur_page` is written only with `RESET_RESYNCS_PAGE`; a pulse of at least `T_RST_MIN` puts
the device on page 0, a shorter one on an open page; the recovery window opens at the `RST(deassert)`, and the host's
turn before the response is the first that can end it (log 15). Everything else is unchanged.
Which latches it writes is the model's reading (log 12), and so is what is answered past the lists (log 2, log 3). -/
def Obligations.ResetDevPulsesTheLine : Prop :=
  ∀ (s : State) (ms : Word), s.fsm = .idle → (∀ a ∈ s.timer, a ≠ TimerAnswer.pending) →
    ∃ (t : State) (d : Nat), exec (.resetDev ms) s = .next t ∧
      t = { s with
        fsm := .idle, fpos := .csOn, rpos := .lineOn, waiting := false, aborting := false, rstLine := false
        reqOp := 0x3, reqPage := 0x00, reqOff := 0x00, reqData := ms
        curPage := if s.cfg.resetResyncsPage then 0x00 else s.curPage
        devPage := if s.cfg.tRstMinUs ≤ ms.toNat * 1000 then 0x00 else Config.pageDraw d
        devRecovering := s.host[6]? != some .recovered
        pageDraws := t.pageDraws
        timer := s.timer.drop 1, host := s.host.drop 7
        bus := s.bus ++ [.rst true, .waitMs ms.toNat, .rst false]
        responses := s.responses ++ [⟨.ok, xfaultOut s, .none⟩] }

/-- R130 to R135: the five scaling requests answer one float of their constants, emit no bus event and change nothing but
the operation-local latches (log 11) and the response; the host's turns pass (log 15). -/
def Obligations.ScalingAnswersOneFloat : Prop :=
  ∀ (s : State) (raw : Word), s.fsm = .idle →
    let result := fun (op : BitVec 4) (c : ScaleConst) =>
      { s with
        fsm := .idle, fpos := .csOn, rpos := .lineOn, waiting := false, aborting := false
        reqOp := op, reqPage := 0x00, reqOff := 0x00, reqData := raw
        host := s.host.drop 3
        devRecovering := s.devRecovering && !(s.host.take 3).contains .recovered
        responses := s.responses ++ [⟨.ok, xfaultOut s, scalePayload s.cfg.scaleFmt c raw⟩] }
    exec (.scaleAccl raw) s = .next (result 0x8 ⟨5, 10, 0⟩) ∧
    exec (.scaleGyro raw) s = .next (result 0x9 ⟨5, 1000, 0⟩) ∧
    exec (.scaleTemp raw) s = .next (result 0xA ⟨1429, 100000, 25⟩) ∧
    exec (.scaleDang raw) s = .next (result 0xB ⟨22, 1000, 0⟩) ∧
    exec (.scaleDvel raw) s = .next (result 0xC ⟨6104, 1000, 0⟩)

/-! ### The bus frames complete -/

/-- R81, R82, R28: the page-select frame sends `80 page`, then its stall; `cur_page` and the device's page become
`page`, and the access goes on to the operation's first state. Where the sequencer is not at a page select, it is
first put there (log 7). -/
def Obligations.PageSelectFrameSelects : Prop :=
  ∀ (s : State) (page : Byte), s.Responsive → s.NoReportedError →
    ∃ (rx : Nat → Byte) (t : State), exec (.psel page) s = .next t ∧ s.Receives rx ∧
      t = { s with
        fsm := firstState s.reqOp, fpos := .csOn, rpos := .lineOn, waiting := false, aborting := false, csLine := false
        reqPage := if atFrame .psel s then s.reqPage else page
        curPage := page
        devPage := t.devPage, devRecovering := t.devRecovering
        rxDraws := t.rxDraws, pageDraws := t.pageDraws
        xport := s.xport.drop 2, timer := s.timer.drop 1, host := s.host.drop 6
        bus := s.bus ++ frameTrace 0x80 page (rx 0) (rx 1) s.cfg.tStallUs } ∧
      (s.devRecovering = false → t.devRecovering = false ∧ t.devPage = page)

/-- R84: the address frame sends `off 00`, discards what it receives, and its stall leads to the data frame; the data
frame sends `00 00`, and after its stall `rdata` is the word received. Where the sequencer is not at that frame, it
is first put there (log 7), and where that breaks off a page select the device's page is open (R165). -/
def Obligations.ReadFramesAddressThenData : Prop :=
  ∀ s : State, s.Responsive → s.NoReportedError →
    (∀ off : Byte, admittedOff off = true →
      ∃ (rx : Nat → Byte) (t : State), exec (.raddr off) s = .next t ∧ s.Receives rx ∧
        t = { s with
          fsm := .rdata, fpos := .csOn, rpos := .lineOn, waiting := false, aborting := false, csLine := false
          reqOp := if atFrame .raddr s then s.reqOp else 0x0
          reqOff := if atFrame .raddr s then s.reqOff else off
          devPage := t.devPage, devRecovering := t.devRecovering
          rxDraws := t.rxDraws, pageDraws := t.pageDraws
          xport := s.xport.drop 2, timer := s.timer.drop 1, host := s.host.drop 6
          bus := s.bus ++ frameTrace off 0x00 (rx 0) (rx 1) s.cfg.tStallUs } ∧
        (s.devRecovering = false → t.devRecovering = false ∧
          (s.fsm ≠ .psel → s.fsm ≠ .pselWait → t.devPage = s.devPage) ∧
          (s.fsm = .psel ∨ s.fsm = .pselWait → ∃ d : Nat, t.devPage = Config.pageDraw d))) ∧
    (∃ (rx : Nat → Byte) (t : State), exec .rdata s = .next t ∧ s.Receives rx ∧
        t = { s with
          fsm := .resp, fpos := .csOn, rpos := .lineOn, waiting := false, aborting := false, csLine := false
          reqOp := if atFrame .rdata s then s.reqOp else 0x0
          rdata := assembleWord (rx 0) (rx 1), rx0 := rx 0, rx1 := rx 1
          devPage := t.devPage, devRecovering := t.devRecovering
          rxDraws := t.rxDraws, pageDraws := t.pageDraws
          xport := s.xport.drop 2, timer := s.timer.drop 1, host := s.host.drop 6
          bus := s.bus ++ frameTrace 0x00 0x00 (rx 0) (rx 1) s.cfg.tStallUs } ∧
        (s.devRecovering = false → t.devRecovering = false ∧
          (s.fsm ≠ .psel → s.fsm ≠ .pselWait → t.devPage = s.devPage) ∧
          (s.fsm = .psel ∨ s.fsm = .pselWait → ∃ d : Nat, t.devPage = Config.pageDraw d)))

/-- R85, R28: the low-byte frame sends `off | 0x80` and the byte and leads to the high-byte frame, which sends
`(off + 1) | 0x80` and the byte and leads to the response. To the page-select register (`off = 0`) the first moves
the device's page to the byte and the second leaves it open; to another register neither moves it. Where the
sequencer is not at that frame, it is first put there (log 7), and where that breaks off a page select the device's
page is open (R165) unless the frame sets it. -/
def Obligations.WriteFramesSendTheirByte : Prop :=
  ∀ (s : State) (off b : Byte), s.Responsive → s.NoReportedError → admittedOff off = true →
    (∃ (rx : Nat → Byte) (t : State), exec (.wlo off b) s = .next t ∧ s.Receives rx ∧
      t = { s with
        fsm := .whi, fpos := .csOn, rpos := .lineOn, waiting := false, aborting := false, csLine := false
        reqOp := if atFrame .wlo s then s.reqOp else 0x1
        reqOff := if atFrame .wlo s then s.reqOff else off
        reqData := if atFrame .wlo s then s.reqData else highByte s.reqData ++ b
        devPage := t.devPage, devRecovering := t.devRecovering
        rxDraws := t.rxDraws, pageDraws := t.pageDraws
        xport := s.xport.drop 2, timer := s.timer.drop 1, host := s.host.drop 6
        bus := s.bus ++ frameTrace (off ||| 0x80) b (rx 0) (rx 1) s.cfg.tStallUs } ∧
      (s.devRecovering = false →
        t.devRecovering = false ∧ (off = 0x00 → t.devPage = b) ∧
        (off ≠ 0x00 → s.fsm ≠ .psel → s.fsm ≠ .pselWait → t.devPage = s.devPage) ∧
        (off ≠ 0x00 → s.fsm = .psel ∨ s.fsm = .pselWait → ∃ d : Nat, t.devPage = Config.pageDraw d))) ∧
    (∃ (rx : Nat → Byte) (t : State), exec (.whi off b) s = .next t ∧ s.Receives rx ∧
      t = { s with
        fsm := .resp, fpos := .csOn, rpos := .lineOn, waiting := false, aborting := false, csLine := false
        reqOp := if atFrame .whi s then s.reqOp else 0x1
        reqOff := if atFrame .whi s then s.reqOff else off
        reqData := if atFrame .whi s then s.reqData else b ++ lowByte s.reqData
        devPage := t.devPage, devRecovering := t.devRecovering
        rxDraws := t.rxDraws, pageDraws := t.pageDraws
        xport := s.xport.drop 2, timer := s.timer.drop 1, host := s.host.drop 6
        bus := s.bus ++ frameTrace ((off + 1) ||| 0x80) b (rx 0) (rx 1) s.cfg.tStallUs } ∧
      (s.devRecovering = false → t.devRecovering = false ∧
        (off ≠ 0x00 → s.fsm ≠ .psel → s.fsm ≠ .pselWait → t.devPage = s.devPage) ∧
        (off = 0x00 ∨ s.fsm = .psel ∨ s.fsm = .pselWait → ∃ d : Nat, t.devPage = Config.pageDraw d)))

/-- R102, R103: a burst request frame sends `off 00` and the burst stall follows. The priming frame keeps nothing and
starts the captures at 1; capture frame `bk` keeps the word received as field `bk - 1` and the next capture follows.
Where the sequencer is at no burst request, it is first put at the priming frame (log 7), and where that breaks off a
page select the device's page is open (R165). -/
def Obligations.BurstRequestFrameCaptures : Prop :=
  ∀ (s : State) (off : Byte), s.Responsive → s.NoReportedError → admittedOff off = true →
    ∃ (rx : Nat → Byte) (t : State), exec (.breq off) s = .next t ∧ s.Receives rx ∧
      (s.devRecovering = false → t.devRecovering = false ∧
        (s.fsm ≠ .psel → s.fsm ≠ .pselWait → t.devPage = s.devPage) ∧
        (s.fsm = .psel ∨ s.fsm = .pselWait → ∃ d : Nat, t.devPage = Config.pageDraw d)) ∧
      let capture := s.fsm = .bcap ∧ s.fpos = .csOn ∧ s.aborting = false ∧ 1 ≤ s.bk.toNat ∧ s.bk.toNat ≤ 8
      let primed := s.fsm ≠ .bcap ∨ s.fpos ≠ .csOn ∨ s.aborting = true ∨ 8 < s.bk.toNat
      (capture →
        t = { s with
          fsm := .bcap, fpos := .csOn, rpos := .lineOn, waiting := false, aborting := false, csLine := false
          bbuf := s.bbuf.set (s.bk.toNat - 1) (assembleWord (rx 0) (rx 1)), bk := s.bk + 1
          rx0 := rx 0, rx1 := rx 1
          devPage := t.devPage, devRecovering := t.devRecovering
          rxDraws := t.rxDraws, pageDraws := t.pageDraws
          xport := s.xport.drop 2, timer := s.timer.drop 1, host := s.host.drop 6
          bus := s.bus ++ frameTrace off 0x00 (rx 0) (rx 1) s.cfg.tBurstStallUs }) ∧
      (primed →
        t = { s with
          fsm := .bcap, fpos := .csOn, rpos := .lineOn, waiting := false, aborting := false, csLine := false
          reqOp := if atFrame .bprime s then s.reqOp else 0x2, bk := 1
          devPage := t.devPage, devRecovering := t.devRecovering
          rxDraws := t.rxDraws, pageDraws := t.pageDraws
          xport := s.xport.drop 2, timer := s.timer.drop 1, host := s.host.drop 6
          bus := s.bus ++ frameTrace off 0x00 (rx 0) (rx 1) s.cfg.tBurstStallUs })

/-- R102, R103: the last burst frame sends `off 00`, keeps the word received as field 8, and its burst stall leads to the
response. Where the sequencer is not at the ninth capture, it is first put there (log 7), and where
that breaks off a page select the device's page is open (R165). The premise on `bk` rules out
states that the sequencer's invariant (`State.Inv.bk`) excludes. -/
def Obligations.BurstEndFrameCapturesTheLastField : Prop :=
  ∀ (s : State) (off : Byte), s.Responsive → s.NoReportedError → admittedOff off = true →
    s.fsm ≠ .bcap ∨ s.bk.toNat ≤ 9 →
    ∃ (rx : Nat → Byte) (t : State), exec (.bend off) s = .next t ∧ s.Receives rx ∧
      t = { s with
        fsm := .resp, fpos := .csOn, rpos := .lineOn, waiting := false, aborting := false, csLine := false
        reqOp := if atFrame .bcap s && decide (8 < s.bk.toNat) then s.reqOp else 0x2, bk := 9
        bbuf := { s.bbuf with temp := assembleWord (rx 0) (rx 1) }
        rx0 := rx 0, rx1 := rx 1
        devPage := t.devPage, devRecovering := t.devRecovering
        rxDraws := t.rxDraws, pageDraws := t.pageDraws
        xport := s.xport.drop 2, timer := s.timer.drop 1, host := s.host.drop 6
        bus := s.bus ++ frameTrace off 0x00 (rx 0) (rx 1) s.cfg.tBurstStallUs } ∧
      (s.devRecovering = false → t.devRecovering = false ∧
        (s.fsm ≠ .psel → s.fsm ≠ .pselWait → t.devPage = s.devPage) ∧
        (s.fsm = .psel ∨ s.fsm = .pselWait → ∃ d : Nat, t.devPage = Config.pageDraw d))

/-! ### Whole operations: endings, faults, pages -/

/-- R140, R146, R154: with agents that answer, every well-formed request ends, idle and with exactly one response,
which is OK, or FLT_TRANSPORT when errors are reported. -/
def Obligations.AnsweredRequestEnds : Prop :=
  ∀ (s : State) (i : Instr), s.fsm = .idle → i.isRequest = true → i.wellFormed = true → s.Responsive →
    ∃ (t : State) (r : Response), exec i s = .next t ∧ t.fsm = .idle ∧ t.responses = s.responses ++ [r] ∧
      (r.status = .ok ∨ (r.status = .fltTransport ∧ s.cfg.xportErrReporting = true))

/-- R143: a reported error at any exchange of READ_REG, WRITE_REG or READ_BURST ends the operation. Its events are those
of the operation's own frames up to the failed exchange, and then `CS(deassert)`; `xfault` is set, the response is
FLT_TRANSPORT with no payload, the block is idle, no later exchange is made, the device's page is open, and
`cur_page` is written only if a page select completed before. -/
def Obligations.ReportedErrorAbortsTheOperation : Prop :=
  ∀ (s : State) (i : Instr) (page : Byte) (access : List FramePlan) (good : List Byte) (rest : List XferAnswer),
    s.fsm = .idle → s.cfg.xportErrReporting = true → (∀ a ∈ s.timer, a ≠ TimerAnswer.pending) →
    ((∃ off, i = .readReg page off ∧ admittedOff off = true ∧ access = readPlan s off) ∨
      (∃ off v, i = .writeReg page off v ∧ admittedOff off = true ∧ access = writePlan s off v) ∨
      (i = .readBurst ∧ page = 0x00 ∧ access = burstPlan s)) →
    s.xport = good.map XferAnswer.byte ++ XferAnswer.err :: rest →
    let plan := selectPlan s page ++ access
    good.length < 2 * plan.length →
    ∃ (rx : Nat → Byte) (t : State) (d : Nat), exec i s = .next t ∧ s.Receives rx ∧
      t.bus = s.bus ++ brokenTrace rx 0 good.length plan ∧
      t.fsm = .idle ∧ t.csLine = false ∧ t.xfault = true ∧ t.xport = rest ∧
      t.responses = s.responses ++ [⟨.fltTransport, some true, .none⟩] ∧
      t.devPage = Config.pageDraw d ∧
      t.curPage = (if good.length < 2 * (selectPlan s page).length then s.curPage else page) ∧
      (i ≠ .readBurst → t.bbuf = s.bbuf) ∧ t.rdata = s.rdata

/-- R28, R53, R86, R101: READ_REG, READ_BURST, and WRITE_REG to any register but the page-select register keep the page
cache consistent with the device, also when the operation is left hanging. -/
def Obligations.AccessesKeepThePageCacheConsistent : Prop :=
  ∀ (s t : State) (i : Instr), s.fsm = .idle → s.PageConsistent → s.cfg.xportErrReporting = false →
    ((∃ page off, i = .readReg page off ∧ admittedOff off = true) ∨
      (∃ page off v, i = .writeReg page off v ∧ admittedOff off = true ∧ off ≠ 0x00) ∨ i = .readBurst) →
    exec i s = .next t → t.PageConsistent

/-- R58, R163: whatever page the device is on, a READ_REG to a page other than `cur_page` brings the page cache and the
device together on that page. -/
def Obligations.PageMissResynchronizes : Prop :=
  ∀ (s : State) (q off : Byte), s.fsm = .idle → s.Responsive → s.NoReportedError → s.devRecovering = false →
    admittedOff off = true → q ≠ s.curPage →
    ∃ t : State, exec (.readReg q off) s = .next t ∧ t.curPage = q ∧ t.devPage = q

/-- R86, R50: a READ_REG repeated on one address emits no page select the second time, and the same transmitted bytes;
the words may differ. -/
def Obligations.RepeatedReadHitsThePage : Prop :=
  ∀ (s : State) (page off : Byte), s.fsm = .idle → s.Responsive → s.NoReportedError → admittedOff off = true →
    ∃ (t u : State) (a b c d : Byte),
      exec (.readReg page off) s = .next t ∧ exec (.readReg page off) t = .next u ∧
      u.bus = t.bus ++ frameTrace off 0x00 a b s.cfg.tStallUs ++ frameTrace 0x00 0x00 c d s.cfg.tStallUs

/-- R167: with `RESET_RESYNCS_PAGE = false`, a long enough reset from a page `q` other than 0 leaves the cache stale; once
the device has recovered, a read of page `q` is a page hit, and goes to the device's page 0. -/
def Obligations.ResetLeavesAStalePage : Prop :=
  ∀ (s : State) (ms : Word) (off : Byte), s.fsm = .idle → s.Responsive → s.NoReportedError →
    s.cfg.resetResyncsPage = false → s.cfg.tRstMinUs ≤ ms.toNat * 1000 → s.curPage ≠ 0x00 →
    admittedOff off = true →
    ∃ (t u : State) (a b c d : Byte),
      exec (.resetDev ms) s = .next t ∧ t.curPage = s.curPage ∧ t.devPage = 0x00 ∧
      exec (.readReg s.curPage off) { t with devRecovering := false } = .next u ∧
      u.bus = t.bus ++ frameTrace off 0x00 a b s.cfg.tStallUs ++ frameTrace 0x00 0x00 c d s.cfg.tStallUs ∧
      u.curPage = s.curPage ∧ u.devPage = 0x00

/-- R33: while the device is recovering, a completed READ_REG returns a free word whatever the transport has listed, and
leaves the device's page free; the window stays open where the host does not issue `RECOVERED` (log 15). -/
def Obligations.RecoveryWindowGivesDraws : Prop :=
  ∀ (s : State) (page off : Byte), s.fsm = .idle → s.Responsive → s.NoReportedError → admittedOff off = true →
    s.devRecovering = true → (∀ a ∈ s.host, a ≠ HostTurn.recovered) →
    ∃ (t : State) (a b d : Nat), exec (.readReg page off) s = .next t ∧
      t.rdata = assembleWord (Config.rxDraw a) (Config.rxDraw b) ∧
      t.responses = s.responses ++ [⟨.ok, xfaultOut s, .word t.rdata⟩] ∧
      t.devPage = Config.pageDraw d ∧ t.devRecovering = true

/-! ### Scaling arithmetic -/

/-- R130: rounding is to nearest, ties to even, at `p` significant bits. The result is `m * 2 ^ e` where `2 ^ e` is the
unit of the exact value, whose magnitude lies in `[2 ^ (p - 1), 2 ^ p)` units; `m` has `p` bits or is the next power
of two; the error is at most half a unit, and `m` is even at exactly half. -/
def Obligations.RoundingIsToNearestEven : Prop :=
  ∀ (p : Nat) (n : Int) (d : Nat), 1 ≤ p → 0 < d → n ≠ 0 →
    let x := roundRat p n d
    (2 : ℚ) ^ (p - 1) * (2 : ℚ) ^ x.e ≤ |(n : ℚ) / (d : ℚ)| ∧
    |(n : ℚ) / (d : ℚ)| < (2 : ℚ) ^ p * (2 : ℚ) ^ x.e ∧
    2 ^ (p - 1) ≤ x.m.natAbs ∧ x.m.natAbs ≤ 2 ^ p ∧
    2 * |(n : ℚ) / (d : ℚ) - x.val| ≤ (2 : ℚ) ^ x.e ∧
    (2 * |(n : ℚ) / (d : ℚ) - x.val| = (2 : ℚ) ^ x.e → x.m % 2 = 0)

/-- R131: every SCALE_ACCL result is exactly `raw / 2`, in both formats. -/
def Obligations.AccelerationIsExact : Prop :=
  ∀ (fmt : ScaleFmt) (raw : Word), (scale fmt acclConst raw).val = (s16 raw : ℚ) / 2

/-- R131 to R135: D0's worked examples, as binary32 bits. -/
def Obligations.ScalingWorkedExamples : Prop :=
  scalePayload .binary32 acclConst 2 = .float32 0x3F800000 ∧
  scalePayload .binary32 gyroConst 200 = .float32 0x3F800000 ∧
  scalePayload .binary32 tempConst 0 = .float32 0x41C80000 ∧
  scalePayload .binary32 dangConst 1000 = .float32 0x41B00000 ∧
  scalePayload .binary32 dvelConst 100 = .float32 0x4418999A

/-- R130: every scaling result is within a relative error of the exact reference value `raw * K + O`, taken over the
magnitudes that are rounded. -/
def Obligations.ScalingErrorIsBounded : Prop :=
  ∀ (fmt : ScaleFmt) (c : ScaleConst) (raw : Word),
    c = acclConst ∨ c = gyroConst ∨ c = tempConst ∨ c = dangConst ∨ c = dvelConst →
    |(scale fmt c raw).val - exactScale c raw| ≤
      4 * (|(s16 raw : ℚ)| * ((c.num : ℚ) / (c.den : ℚ)) + (c.off : ℚ)) / (2 : ℚ) ^ fmtPrecision fmt

/-- R74, R130: the payload's bits are the IEEE 754 encoding of the scaled value, in both formats. -/
def Obligations.PayloadBitsEncodeTheValue : Prop :=
  ∀ (c : ScaleConst) (raw : Word),
    c = acclConst ∨ c = gyroConst ∨ c = tempConst ∨ c = dangConst ∨ c = dvelConst →
    (∃ bits : BitVec 32, scalePayload .binary32 c raw = .float32 bits ∧
      ieeeValue 24 127 31 bits.toNat = (scale .binary32 c raw).val) ∧
    (∃ bits : BitVec 64, scalePayload .binary64 c raw = .float64 bits ∧
      ieeeValue 53 1023 63 bits.toNat = (scale .binary64 c raw).val)
end

