-- ==== Sys2Proof/Laws/State.lean ====
section
/-! SUPPORT. One lemma for each field of State under each named update, so that no later proof unfolds an update. -/

namespace Sys2Proof.Machine

/-! ### goto -/

@[simp] theorem goto_cfg (x : Fsm) (s : State) : (goto x s).cfg = s.cfg := rfl
@[simp] theorem goto_curPage (x : Fsm) (s : State) : (goto x s).curPage = s.curPage := rfl
@[simp] theorem goto_fsm (x : Fsm) (s : State) : (goto x s).fsm = x := rfl
@[simp] theorem goto_fpos (x : Fsm) (s : State) : (goto x s).fpos = .csOn := rfl
@[simp] theorem goto_rpos (x : Fsm) (s : State) : (goto x s).rpos = .lineOn := rfl
@[simp] theorem goto_waiting (x : Fsm) (s : State) : (goto x s).waiting = false := rfl
@[simp] theorem goto_reqOp (x : Fsm) (s : State) : (goto x s).reqOp = s.reqOp := rfl
@[simp] theorem goto_reqPage (x : Fsm) (s : State) : (goto x s).reqPage = s.reqPage := rfl
@[simp] theorem goto_reqOff (x : Fsm) (s : State) : (goto x s).reqOff = s.reqOff := rfl
@[simp] theorem goto_reqData (x : Fsm) (s : State) : (goto x s).reqData = s.reqData := rfl
@[simp] theorem goto_rdata (x : Fsm) (s : State) : (goto x s).rdata = s.rdata := rfl
@[simp] theorem goto_bbuf (x : Fsm) (s : State) : (goto x s).bbuf = s.bbuf := rfl
@[simp] theorem goto_bk (x : Fsm) (s : State) : (goto x s).bk = s.bk := rfl
@[simp] theorem goto_xfault (x : Fsm) (s : State) : (goto x s).xfault = s.xfault := rfl
@[simp] theorem goto_csLine (x : Fsm) (s : State) : (goto x s).csLine = s.csLine := rfl
@[simp] theorem goto_rstLine (x : Fsm) (s : State) : (goto x s).rstLine = s.rstLine := rfl
@[simp] theorem goto_devPage (x : Fsm) (s : State) : (goto x s).devPage = s.devPage := rfl
@[simp] theorem goto_devRecovering (x : Fsm) (s : State) : (goto x s).devRecovering = s.devRecovering := rfl
@[simp] theorem goto_rx0 (x : Fsm) (s : State) : (goto x s).rx0 = s.rx0 := rfl
@[simp] theorem goto_rx1 (x : Fsm) (s : State) : (goto x s).rx1 = s.rx1 := rfl
@[simp] theorem goto_aborting (x : Fsm) (s : State) : (goto x s).aborting = false := rfl
@[simp] theorem goto_rxDraws (x : Fsm) (s : State) : (goto x s).rxDraws = s.rxDraws := rfl
@[simp] theorem goto_pageDraws (x : Fsm) (s : State) : (goto x s).pageDraws = s.pageDraws := rfl
@[simp] theorem goto_offered (x : Fsm) (s : State) : (goto x s).offered = s.offered := rfl
@[simp] theorem goto_responses (x : Fsm) (s : State) : (goto x s).responses = s.responses := rfl
@[simp] theorem goto_bus (x : Fsm) (s : State) : (goto x s).bus = s.bus := rfl
@[simp] theorem goto_xport (x : Fsm) (s : State) : (goto x s).xport = s.xport := rfl
@[simp] theorem goto_timer (x : Fsm) (s : State) : (goto x s).timer = s.timer := rfl
@[simp] theorem goto_host (x : Fsm) (s : State) : (goto x s).host = s.host := rfl

/-! ### emit -/

@[simp] theorem emit_cfg (e : BusEvent) (s : State) : (emit e s).cfg = s.cfg := rfl
@[simp] theorem emit_curPage (e : BusEvent) (s : State) : (emit e s).curPage = s.curPage := rfl
@[simp] theorem emit_fsm (e : BusEvent) (s : State) : (emit e s).fsm = s.fsm := rfl
@[simp] theorem emit_fpos (e : BusEvent) (s : State) : (emit e s).fpos = s.fpos := rfl
@[simp] theorem emit_rpos (e : BusEvent) (s : State) : (emit e s).rpos = s.rpos := rfl
@[simp] theorem emit_waiting (e : BusEvent) (s : State) : (emit e s).waiting = s.waiting := rfl
@[simp] theorem emit_reqOp (e : BusEvent) (s : State) : (emit e s).reqOp = s.reqOp := rfl
@[simp] theorem emit_reqPage (e : BusEvent) (s : State) : (emit e s).reqPage = s.reqPage := rfl
@[simp] theorem emit_reqOff (e : BusEvent) (s : State) : (emit e s).reqOff = s.reqOff := rfl
@[simp] theorem emit_reqData (e : BusEvent) (s : State) : (emit e s).reqData = s.reqData := rfl
@[simp] theorem emit_rdata (e : BusEvent) (s : State) : (emit e s).rdata = s.rdata := rfl
@[simp] theorem emit_bbuf (e : BusEvent) (s : State) : (emit e s).bbuf = s.bbuf := rfl
@[simp] theorem emit_bk (e : BusEvent) (s : State) : (emit e s).bk = s.bk := rfl
@[simp] theorem emit_xfault (e : BusEvent) (s : State) : (emit e s).xfault = s.xfault := rfl
@[simp] theorem emit_csLine (e : BusEvent) (s : State) : (emit e s).csLine = s.csLine := rfl
@[simp] theorem emit_rstLine (e : BusEvent) (s : State) : (emit e s).rstLine = s.rstLine := rfl
@[simp] theorem emit_devPage (e : BusEvent) (s : State) : (emit e s).devPage = s.devPage := rfl
@[simp] theorem emit_devRecovering (e : BusEvent) (s : State) : (emit e s).devRecovering = s.devRecovering := rfl
@[simp] theorem emit_rx0 (e : BusEvent) (s : State) : (emit e s).rx0 = s.rx0 := rfl
@[simp] theorem emit_rx1 (e : BusEvent) (s : State) : (emit e s).rx1 = s.rx1 := rfl
@[simp] theorem emit_aborting (e : BusEvent) (s : State) : (emit e s).aborting = s.aborting := rfl
@[simp] theorem emit_rxDraws (e : BusEvent) (s : State) : (emit e s).rxDraws = s.rxDraws := rfl
@[simp] theorem emit_pageDraws (e : BusEvent) (s : State) : (emit e s).pageDraws = s.pageDraws := rfl
@[simp] theorem emit_offered (e : BusEvent) (s : State) : (emit e s).offered = s.offered := rfl
@[simp] theorem emit_responses (e : BusEvent) (s : State) : (emit e s).responses = s.responses := rfl
@[simp] theorem emit_bus (e : BusEvent) (s : State) : (emit e s).bus = s.bus ++ [e] := rfl
@[simp] theorem emit_xport (e : BusEvent) (s : State) : (emit e s).xport = s.xport := rfl
@[simp] theorem emit_timer (e : BusEvent) (s : State) : (emit e s).timer = s.timer := rfl
@[simp] theorem emit_host (e : BusEvent) (s : State) : (emit e s).host = s.host := rfl

/-! ### respond -/

@[simp] theorem respond_cfg (st : Status) (p : Payload) (s : State) : (respond st p s).cfg = s.cfg := rfl
@[simp] theorem respond_curPage (st : Status) (p : Payload) (s : State) : (respond st p s).curPage = s.curPage := rfl
@[simp] theorem respond_fsm (st : Status) (p : Payload) (s : State) : (respond st p s).fsm = .idle := rfl
@[simp] theorem respond_fpos (st : Status) (p : Payload) (s : State) : (respond st p s).fpos = .csOn := rfl
@[simp] theorem respond_rpos (st : Status) (p : Payload) (s : State) : (respond st p s).rpos = .lineOn := rfl
@[simp] theorem respond_waiting (st : Status) (p : Payload) (s : State) : (respond st p s).waiting = false := rfl
@[simp] theorem respond_reqOp (st : Status) (p : Payload) (s : State) : (respond st p s).reqOp = s.reqOp := rfl
@[simp] theorem respond_reqPage (st : Status) (p : Payload) (s : State) : (respond st p s).reqPage = s.reqPage := rfl
@[simp] theorem respond_reqOff (st : Status) (p : Payload) (s : State) : (respond st p s).reqOff = s.reqOff := rfl
@[simp] theorem respond_reqData (st : Status) (p : Payload) (s : State) : (respond st p s).reqData = s.reqData := rfl
@[simp] theorem respond_rdata (st : Status) (p : Payload) (s : State) : (respond st p s).rdata = s.rdata := rfl
@[simp] theorem respond_bbuf (st : Status) (p : Payload) (s : State) : (respond st p s).bbuf = s.bbuf := rfl
@[simp] theorem respond_bk (st : Status) (p : Payload) (s : State) : (respond st p s).bk = s.bk := rfl
@[simp] theorem respond_xfault (st : Status) (p : Payload) (s : State) : (respond st p s).xfault = s.xfault := rfl
@[simp] theorem respond_csLine (st : Status) (p : Payload) (s : State) : (respond st p s).csLine = s.csLine := rfl
@[simp] theorem respond_rstLine (st : Status) (p : Payload) (s : State) : (respond st p s).rstLine = s.rstLine := rfl
@[simp] theorem respond_devPage (st : Status) (p : Payload) (s : State) : (respond st p s).devPage = s.devPage := rfl
@[simp] theorem respond_devRecovering (st : Status) (p : Payload) (s : State) : (respond st p s).devRecovering = s.devRecovering := rfl
@[simp] theorem respond_rx0 (st : Status) (p : Payload) (s : State) : (respond st p s).rx0 = s.rx0 := rfl
@[simp] theorem respond_rx1 (st : Status) (p : Payload) (s : State) : (respond st p s).rx1 = s.rx1 := rfl
@[simp] theorem respond_aborting (st : Status) (p : Payload) (s : State) : (respond st p s).aborting = false := rfl
@[simp] theorem respond_rxDraws (st : Status) (p : Payload) (s : State) : (respond st p s).rxDraws = s.rxDraws := rfl
@[simp] theorem respond_pageDraws (st : Status) (p : Payload) (s : State) : (respond st p s).pageDraws = s.pageDraws := rfl
@[simp] theorem respond_offered (st : Status) (p : Payload) (s : State) : (respond st p s).offered = s.offered := rfl
@[simp] theorem respond_responses (st : Status) (p : Payload) (s : State) : (respond st p s).responses = s.responses ++ [⟨st, xfaultOut s, p⟩] := rfl
@[simp] theorem respond_bus (st : Status) (p : Payload) (s : State) : (respond st p s).bus = s.bus := rfl
@[simp] theorem respond_xport (st : Status) (p : Payload) (s : State) : (respond st p s).xport = s.xport := rfl
@[simp] theorem respond_timer (st : Status) (p : Payload) (s : State) : (respond st p s).timer = s.timer := rfl
@[simp] theorem respond_host (st : Status) (p : Payload) (s : State) : (respond st p s).host = s.host := rfl

/-! ### refuse -/

@[simp] theorem refuse_cfg (c : RefuseCode) (s : State) : (refuse c s).cfg = s.cfg := rfl
@[simp] theorem refuse_curPage (c : RefuseCode) (s : State) : (refuse c s).curPage = s.curPage := rfl
@[simp] theorem refuse_fsm (c : RefuseCode) (s : State) : (refuse c s).fsm = .idle := rfl
@[simp] theorem refuse_fpos (c : RefuseCode) (s : State) : (refuse c s).fpos = .csOn := rfl
@[simp] theorem refuse_rpos (c : RefuseCode) (s : State) : (refuse c s).rpos = .lineOn := rfl
@[simp] theorem refuse_waiting (c : RefuseCode) (s : State) : (refuse c s).waiting = false := rfl
@[simp] theorem refuse_reqOp (c : RefuseCode) (s : State) : (refuse c s).reqOp = s.reqOp := rfl
@[simp] theorem refuse_reqPage (c : RefuseCode) (s : State) : (refuse c s).reqPage = s.reqPage := rfl
@[simp] theorem refuse_reqOff (c : RefuseCode) (s : State) : (refuse c s).reqOff = s.reqOff := rfl
@[simp] theorem refuse_reqData (c : RefuseCode) (s : State) : (refuse c s).reqData = s.reqData := rfl
@[simp] theorem refuse_rdata (c : RefuseCode) (s : State) : (refuse c s).rdata = s.rdata := rfl
@[simp] theorem refuse_bbuf (c : RefuseCode) (s : State) : (refuse c s).bbuf = s.bbuf := rfl
@[simp] theorem refuse_bk (c : RefuseCode) (s : State) : (refuse c s).bk = s.bk := rfl
@[simp] theorem refuse_xfault (c : RefuseCode) (s : State) : (refuse c s).xfault = s.xfault := rfl
@[simp] theorem refuse_csLine (c : RefuseCode) (s : State) : (refuse c s).csLine = s.csLine := rfl
@[simp] theorem refuse_rstLine (c : RefuseCode) (s : State) : (refuse c s).rstLine = s.rstLine := rfl
@[simp] theorem refuse_devPage (c : RefuseCode) (s : State) : (refuse c s).devPage = s.devPage := rfl
@[simp] theorem refuse_devRecovering (c : RefuseCode) (s : State) : (refuse c s).devRecovering = s.devRecovering := rfl
@[simp] theorem refuse_rx0 (c : RefuseCode) (s : State) : (refuse c s).rx0 = s.rx0 := rfl
@[simp] theorem refuse_rx1 (c : RefuseCode) (s : State) : (refuse c s).rx1 = s.rx1 := rfl
@[simp] theorem refuse_aborting (c : RefuseCode) (s : State) : (refuse c s).aborting = false := rfl
@[simp] theorem refuse_rxDraws (c : RefuseCode) (s : State) : (refuse c s).rxDraws = s.rxDraws := rfl
@[simp] theorem refuse_pageDraws (c : RefuseCode) (s : State) : (refuse c s).pageDraws = s.pageDraws := rfl
@[simp] theorem refuse_offered (c : RefuseCode) (s : State) : (refuse c s).offered = s.offered := rfl
@[simp] theorem refuse_responses (c : RefuseCode) (s : State) : (refuse c s).responses = s.responses ++ [⟨.refused c, xfaultOut s, .none⟩] := rfl
@[simp] theorem refuse_bus (c : RefuseCode) (s : State) : (refuse c s).bus = s.bus := rfl
@[simp] theorem refuse_xport (c : RefuseCode) (s : State) : (refuse c s).xport = s.xport := rfl
@[simp] theorem refuse_timer (c : RefuseCode) (s : State) : (refuse c s).timer = s.timer := rfl
@[simp] theorem refuse_host (c : RefuseCode) (s : State) : (refuse c s).host = s.host := rfl

/-! ### answered -/

@[simp] theorem answered_cfg (s : State) : (answered s).cfg = s.cfg := rfl
@[simp] theorem answered_curPage (s : State) : (answered s).curPage = s.curPage := rfl
@[simp] theorem answered_fsm (s : State) : (answered s).fsm = s.fsm := rfl
@[simp] theorem answered_fpos (s : State) : (answered s).fpos = s.fpos := rfl
@[simp] theorem answered_rpos (s : State) : (answered s).rpos = s.rpos := rfl
@[simp] theorem answered_waiting (s : State) : (answered s).waiting = s.waiting := rfl
@[simp] theorem answered_reqOp (s : State) : (answered s).reqOp = s.reqOp := rfl
@[simp] theorem answered_reqPage (s : State) : (answered s).reqPage = s.reqPage := rfl
@[simp] theorem answered_reqOff (s : State) : (answered s).reqOff = s.reqOff := rfl
@[simp] theorem answered_reqData (s : State) : (answered s).reqData = s.reqData := rfl
@[simp] theorem answered_rdata (s : State) : (answered s).rdata = s.rdata := rfl
@[simp] theorem answered_bbuf (s : State) : (answered s).bbuf = s.bbuf := rfl
@[simp] theorem answered_bk (s : State) : (answered s).bk = s.bk := rfl
@[simp] theorem answered_xfault (s : State) : (answered s).xfault = s.xfault := rfl
@[simp] theorem answered_csLine (s : State) : (answered s).csLine = s.csLine := rfl
@[simp] theorem answered_rstLine (s : State) : (answered s).rstLine = s.rstLine := rfl
@[simp] theorem answered_devPage (s : State) : (answered s).devPage = s.devPage := rfl
@[simp] theorem answered_devRecovering (s : State) : (answered s).devRecovering = s.devRecovering := rfl
@[simp] theorem answered_rx0 (s : State) : (answered s).rx0 = s.rx0 := rfl
@[simp] theorem answered_rx1 (s : State) : (answered s).rx1 = s.rx1 := rfl
@[simp] theorem answered_aborting (s : State) : (answered s).aborting = s.aborting := rfl
@[simp] theorem answered_rxDraws (s : State) : (answered s).rxDraws = s.rxDraws + 1 := rfl
@[simp] theorem answered_pageDraws (s : State) : (answered s).pageDraws = s.pageDraws := rfl
@[simp] theorem answered_offered (s : State) : (answered s).offered = s.offered := rfl
@[simp] theorem answered_responses (s : State) : (answered s).responses = s.responses := rfl
@[simp] theorem answered_bus (s : State) : (answered s).bus = s.bus := rfl
@[simp] theorem answered_xport (s : State) : (answered s).xport = s.xport.tail := rfl
@[simp] theorem answered_timer (s : State) : (answered s).timer = s.timer := rfl
@[simp] theorem answered_host (s : State) : (answered s).host = s.host := rfl

/-! ### offer -/

@[simp] theorem offer_cfg (i : Instr) (s : State) : (offer i s).cfg = s.cfg := rfl
@[simp] theorem offer_curPage (i : Instr) (s : State) : (offer i s).curPage = s.curPage := rfl
@[simp] theorem offer_fsm (i : Instr) (s : State) : (offer i s).fsm = s.fsm := rfl
@[simp] theorem offer_fpos (i : Instr) (s : State) : (offer i s).fpos = s.fpos := rfl
@[simp] theorem offer_rpos (i : Instr) (s : State) : (offer i s).rpos = s.rpos := rfl
@[simp] theorem offer_waiting (i : Instr) (s : State) : (offer i s).waiting = s.waiting := rfl
@[simp] theorem offer_reqOp (i : Instr) (s : State) : (offer i s).reqOp = s.reqOp := rfl
@[simp] theorem offer_reqPage (i : Instr) (s : State) : (offer i s).reqPage = s.reqPage := rfl
@[simp] theorem offer_reqOff (i : Instr) (s : State) : (offer i s).reqOff = s.reqOff := rfl
@[simp] theorem offer_reqData (i : Instr) (s : State) : (offer i s).reqData = s.reqData := rfl
@[simp] theorem offer_rdata (i : Instr) (s : State) : (offer i s).rdata = s.rdata := rfl
@[simp] theorem offer_bbuf (i : Instr) (s : State) : (offer i s).bbuf = s.bbuf := rfl
@[simp] theorem offer_bk (i : Instr) (s : State) : (offer i s).bk = s.bk := rfl
@[simp] theorem offer_xfault (i : Instr) (s : State) : (offer i s).xfault = s.xfault := rfl
@[simp] theorem offer_csLine (i : Instr) (s : State) : (offer i s).csLine = s.csLine := rfl
@[simp] theorem offer_rstLine (i : Instr) (s : State) : (offer i s).rstLine = s.rstLine := rfl
@[simp] theorem offer_devPage (i : Instr) (s : State) : (offer i s).devPage = s.devPage := rfl
@[simp] theorem offer_devRecovering (i : Instr) (s : State) : (offer i s).devRecovering = s.devRecovering := rfl
@[simp] theorem offer_rx0 (i : Instr) (s : State) : (offer i s).rx0 = s.rx0 := rfl
@[simp] theorem offer_rx1 (i : Instr) (s : State) : (offer i s).rx1 = s.rx1 := rfl
@[simp] theorem offer_aborting (i : Instr) (s : State) : (offer i s).aborting = s.aborting := rfl
@[simp] theorem offer_rxDraws (i : Instr) (s : State) : (offer i s).rxDraws = s.rxDraws := rfl
@[simp] theorem offer_pageDraws (i : Instr) (s : State) : (offer i s).pageDraws = s.pageDraws := rfl
@[simp] theorem offer_offered (i : Instr) (s : State) : (offer i s).offered = s.offered ++ [encodeRequest i] := rfl
@[simp] theorem offer_responses (i : Instr) (s : State) : (offer i s).responses = s.responses := rfl
@[simp] theorem offer_bus (i : Instr) (s : State) : (offer i s).bus = s.bus := rfl
@[simp] theorem offer_xport (i : Instr) (s : State) : (offer i s).xport = s.xport := rfl
@[simp] theorem offer_timer (i : Instr) (s : State) : (offer i s).timer = s.timer := rfl
@[simp] theorem offer_host (i : Instr) (s : State) : (offer i s).host = s.host := rfl

/-! ### csAssert -/

@[simp] theorem csAssert_cfg (s : State) : (csAssert s).cfg = s.cfg := rfl
@[simp] theorem csAssert_curPage (s : State) : (csAssert s).curPage = s.curPage := rfl
@[simp] theorem csAssert_fsm (s : State) : (csAssert s).fsm = s.fsm := rfl
@[simp] theorem csAssert_fpos (s : State) : (csAssert s).fpos = .b0 := rfl
@[simp] theorem csAssert_rpos (s : State) : (csAssert s).rpos = s.rpos := rfl
@[simp] theorem csAssert_waiting (s : State) : (csAssert s).waiting = s.waiting := rfl
@[simp] theorem csAssert_reqOp (s : State) : (csAssert s).reqOp = s.reqOp := rfl
@[simp] theorem csAssert_reqPage (s : State) : (csAssert s).reqPage = s.reqPage := rfl
@[simp] theorem csAssert_reqOff (s : State) : (csAssert s).reqOff = s.reqOff := rfl
@[simp] theorem csAssert_reqData (s : State) : (csAssert s).reqData = s.reqData := rfl
@[simp] theorem csAssert_rdata (s : State) : (csAssert s).rdata = s.rdata := rfl
@[simp] theorem csAssert_bbuf (s : State) : (csAssert s).bbuf = s.bbuf := rfl
@[simp] theorem csAssert_bk (s : State) : (csAssert s).bk = s.bk := rfl
@[simp] theorem csAssert_xfault (s : State) : (csAssert s).xfault = s.xfault := rfl
@[simp] theorem csAssert_csLine (s : State) : (csAssert s).csLine = true := rfl
@[simp] theorem csAssert_rstLine (s : State) : (csAssert s).rstLine = s.rstLine := rfl
@[simp] theorem csAssert_devPage (s : State) : (csAssert s).devPage = s.devPage := rfl
@[simp] theorem csAssert_devRecovering (s : State) : (csAssert s).devRecovering = s.devRecovering := rfl
@[simp] theorem csAssert_rx0 (s : State) : (csAssert s).rx0 = s.rx0 := rfl
@[simp] theorem csAssert_rx1 (s : State) : (csAssert s).rx1 = s.rx1 := rfl
@[simp] theorem csAssert_aborting (s : State) : (csAssert s).aborting = s.aborting := rfl
@[simp] theorem csAssert_rxDraws (s : State) : (csAssert s).rxDraws = s.rxDraws := rfl
@[simp] theorem csAssert_pageDraws (s : State) : (csAssert s).pageDraws = s.pageDraws := rfl
@[simp] theorem csAssert_offered (s : State) : (csAssert s).offered = s.offered := rfl
@[simp] theorem csAssert_responses (s : State) : (csAssert s).responses = s.responses := rfl
@[simp] theorem csAssert_bus (s : State) : (csAssert s).bus = s.bus ++ [.cs true] := rfl
@[simp] theorem csAssert_xport (s : State) : (csAssert s).xport = s.xport := rfl
@[simp] theorem csAssert_timer (s : State) : (csAssert s).timer = s.timer := rfl
@[simp] theorem csAssert_host (s : State) : (csAssert s).host = s.host := rfl

/-! ### csDeassert -/

@[simp] theorem csDeassert_cfg (x : Fsm) (b0 b1 : Byte) (s : State) : (csDeassert x b0 b1 s).cfg = s.cfg := rfl
@[simp] theorem csDeassert_curPage (x : Fsm) (b0 b1 : Byte) (s : State) : (csDeassert x b0 b1 s).curPage = if x = .psel then b1 else s.curPage := rfl
@[simp] theorem csDeassert_fsm (x : Fsm) (b0 b1 : Byte) (s : State) : (csDeassert x b0 b1 s).fsm = stallOf x := rfl
@[simp] theorem csDeassert_fpos (x : Fsm) (b0 b1 : Byte) (s : State) : (csDeassert x b0 b1 s).fpos = .csOn := rfl
@[simp] theorem csDeassert_rpos (x : Fsm) (b0 b1 : Byte) (s : State) : (csDeassert x b0 b1 s).rpos = .lineOn := rfl
@[simp] theorem csDeassert_waiting (x : Fsm) (b0 b1 : Byte) (s : State) : (csDeassert x b0 b1 s).waiting = false := rfl
@[simp] theorem csDeassert_reqOp (x : Fsm) (b0 b1 : Byte) (s : State) : (csDeassert x b0 b1 s).reqOp = s.reqOp := rfl
@[simp] theorem csDeassert_reqPage (x : Fsm) (b0 b1 : Byte) (s : State) : (csDeassert x b0 b1 s).reqPage = s.reqPage := rfl
@[simp] theorem csDeassert_reqOff (x : Fsm) (b0 b1 : Byte) (s : State) : (csDeassert x b0 b1 s).reqOff = s.reqOff := rfl
@[simp] theorem csDeassert_reqData (x : Fsm) (b0 b1 : Byte) (s : State) : (csDeassert x b0 b1 s).reqData = s.reqData := rfl
@[simp] theorem csDeassert_rdata (x : Fsm) (b0 b1 : Byte) (s : State) : (csDeassert x b0 b1 s).rdata = s.rdata := rfl
@[simp] theorem csDeassert_bbuf (x : Fsm) (b0 b1 : Byte) (s : State) : (csDeassert x b0 b1 s).bbuf = s.bbuf := rfl
@[simp] theorem csDeassert_bk (x : Fsm) (b0 b1 : Byte) (s : State) : (csDeassert x b0 b1 s).bk = s.bk := rfl
@[simp] theorem csDeassert_xfault (x : Fsm) (b0 b1 : Byte) (s : State) : (csDeassert x b0 b1 s).xfault = s.xfault := rfl
@[simp] theorem csDeassert_csLine (x : Fsm) (b0 b1 : Byte) (s : State) : (csDeassert x b0 b1 s).csLine = false := rfl
@[simp] theorem csDeassert_rstLine (x : Fsm) (b0 b1 : Byte) (s : State) : (csDeassert x b0 b1 s).rstLine = s.rstLine := rfl
@[simp] theorem csDeassert_devPage (x : Fsm) (b0 b1 : Byte) (s : State) : (csDeassert x b0 b1 s).devPage = latchedPage b0 b1 s := rfl
@[simp] theorem csDeassert_devRecovering (x : Fsm) (b0 b1 : Byte) (s : State) : (csDeassert x b0 b1 s).devRecovering = s.devRecovering := rfl
@[simp] theorem csDeassert_rx0 (x : Fsm) (b0 b1 : Byte) (s : State) : (csDeassert x b0 b1 s).rx0 = s.rx0 := rfl
@[simp] theorem csDeassert_rx1 (x : Fsm) (b0 b1 : Byte) (s : State) : (csDeassert x b0 b1 s).rx1 = s.rx1 := rfl
@[simp] theorem csDeassert_aborting (x : Fsm) (b0 b1 : Byte) (s : State) : (csDeassert x b0 b1 s).aborting = false := rfl
@[simp] theorem csDeassert_rxDraws (x : Fsm) (b0 b1 : Byte) (s : State) : (csDeassert x b0 b1 s).rxDraws = s.rxDraws := rfl
@[simp] theorem csDeassert_pageDraws (x : Fsm) (b0 b1 : Byte) (s : State) : (csDeassert x b0 b1 s).pageDraws = s.pageDraws + 1 := rfl
@[simp] theorem csDeassert_offered (x : Fsm) (b0 b1 : Byte) (s : State) : (csDeassert x b0 b1 s).offered = s.offered := rfl
@[simp] theorem csDeassert_responses (x : Fsm) (b0 b1 : Byte) (s : State) : (csDeassert x b0 b1 s).responses = s.responses := rfl
@[simp] theorem csDeassert_bus (x : Fsm) (b0 b1 : Byte) (s : State) : (csDeassert x b0 b1 s).bus = s.bus ++ [.cs false] := rfl
@[simp] theorem csDeassert_xport (x : Fsm) (b0 b1 : Byte) (s : State) : (csDeassert x b0 b1 s).xport = s.xport := rfl
@[simp] theorem csDeassert_timer (x : Fsm) (b0 b1 : Byte) (s : State) : (csDeassert x b0 b1 s).timer = s.timer := rfl
@[simp] theorem csDeassert_host (x : Fsm) (b0 b1 : Byte) (s : State) : (csDeassert x b0 b1 s).host = s.host := rfl

/-! ### transportFault -/

@[simp] theorem transportFault_cfg (s : State) : (transportFault s).cfg = s.cfg := rfl
@[simp] theorem transportFault_curPage (s : State) : (transportFault s).curPage = s.curPage := rfl
@[simp] theorem transportFault_fsm (s : State) : (transportFault s).fsm = .idle := rfl
@[simp] theorem transportFault_fpos (s : State) : (transportFault s).fpos = .csOn := rfl
@[simp] theorem transportFault_rpos (s : State) : (transportFault s).rpos = .lineOn := rfl
@[simp] theorem transportFault_waiting (s : State) : (transportFault s).waiting = false := rfl
@[simp] theorem transportFault_reqOp (s : State) : (transportFault s).reqOp = s.reqOp := rfl
@[simp] theorem transportFault_reqPage (s : State) : (transportFault s).reqPage = s.reqPage := rfl
@[simp] theorem transportFault_reqOff (s : State) : (transportFault s).reqOff = s.reqOff := rfl
@[simp] theorem transportFault_reqData (s : State) : (transportFault s).reqData = s.reqData := rfl
@[simp] theorem transportFault_rdata (s : State) : (transportFault s).rdata = s.rdata := rfl
@[simp] theorem transportFault_bbuf (s : State) : (transportFault s).bbuf = s.bbuf := rfl
@[simp] theorem transportFault_bk (s : State) : (transportFault s).bk = s.bk := rfl
@[simp] theorem transportFault_xfault (s : State) : (transportFault s).xfault = true := rfl
@[simp] theorem transportFault_csLine (s : State) : (transportFault s).csLine = false := rfl
@[simp] theorem transportFault_rstLine (s : State) : (transportFault s).rstLine = s.rstLine := rfl
@[simp] theorem transportFault_devPage (s : State) : (transportFault s).devPage = Config.pageDraw s.pageDraws := rfl
@[simp] theorem transportFault_devRecovering (s : State) : (transportFault s).devRecovering = s.devRecovering := rfl
@[simp] theorem transportFault_rx0 (s : State) : (transportFault s).rx0 = s.rx0 := rfl
@[simp] theorem transportFault_rx1 (s : State) : (transportFault s).rx1 = s.rx1 := rfl
@[simp] theorem transportFault_aborting (s : State) : (transportFault s).aborting = false := rfl
@[simp] theorem transportFault_rxDraws (s : State) : (transportFault s).rxDraws = s.rxDraws := rfl
@[simp] theorem transportFault_pageDraws (s : State) : (transportFault s).pageDraws = s.pageDraws + 1 := rfl
@[simp] theorem transportFault_offered (s : State) : (transportFault s).offered = s.offered := rfl
@[simp] theorem transportFault_responses (s : State) : (transportFault s).responses = s.responses ++ [⟨.fltTransport, if s.cfg.xportErrReporting then some true else none, .none⟩] := rfl
@[simp] theorem transportFault_bus (s : State) : (transportFault s).bus = s.bus ++ [.cs false] := rfl
@[simp] theorem transportFault_xport (s : State) : (transportFault s).xport = s.xport := rfl
@[simp] theorem transportFault_timer (s : State) : (transportFault s).timer = s.timer := rfl
@[simp] theorem transportFault_host (s : State) : (transportFault s).host = s.host := rfl

/-! ### captureRdata -/

@[simp] theorem captureRdata_cfg (s : State) : (captureRdata s).cfg = s.cfg := rfl
@[simp] theorem captureRdata_curPage (s : State) : (captureRdata s).curPage = s.curPage := rfl
@[simp] theorem captureRdata_fsm (s : State) : (captureRdata s).fsm = s.fsm := rfl
@[simp] theorem captureRdata_fpos (s : State) : (captureRdata s).fpos = s.fpos := rfl
@[simp] theorem captureRdata_rpos (s : State) : (captureRdata s).rpos = s.rpos := rfl
@[simp] theorem captureRdata_waiting (s : State) : (captureRdata s).waiting = s.waiting := rfl
@[simp] theorem captureRdata_reqOp (s : State) : (captureRdata s).reqOp = s.reqOp := rfl
@[simp] theorem captureRdata_reqPage (s : State) : (captureRdata s).reqPage = s.reqPage := rfl
@[simp] theorem captureRdata_reqOff (s : State) : (captureRdata s).reqOff = s.reqOff := rfl
@[simp] theorem captureRdata_reqData (s : State) : (captureRdata s).reqData = s.reqData := rfl
@[simp] theorem captureRdata_rdata (s : State) : (captureRdata s).rdata = assembleWord s.rx0 s.rx1 := rfl
@[simp] theorem captureRdata_bbuf (s : State) : (captureRdata s).bbuf = s.bbuf := rfl
@[simp] theorem captureRdata_bk (s : State) : (captureRdata s).bk = s.bk := rfl
@[simp] theorem captureRdata_xfault (s : State) : (captureRdata s).xfault = s.xfault := rfl
@[simp] theorem captureRdata_csLine (s : State) : (captureRdata s).csLine = s.csLine := rfl
@[simp] theorem captureRdata_rstLine (s : State) : (captureRdata s).rstLine = s.rstLine := rfl
@[simp] theorem captureRdata_devPage (s : State) : (captureRdata s).devPage = s.devPage := rfl
@[simp] theorem captureRdata_devRecovering (s : State) : (captureRdata s).devRecovering = s.devRecovering := rfl
@[simp] theorem captureRdata_rx0 (s : State) : (captureRdata s).rx0 = s.rx0 := rfl
@[simp] theorem captureRdata_rx1 (s : State) : (captureRdata s).rx1 = s.rx1 := rfl
@[simp] theorem captureRdata_aborting (s : State) : (captureRdata s).aborting = s.aborting := rfl
@[simp] theorem captureRdata_rxDraws (s : State) : (captureRdata s).rxDraws = s.rxDraws := rfl
@[simp] theorem captureRdata_pageDraws (s : State) : (captureRdata s).pageDraws = s.pageDraws := rfl
@[simp] theorem captureRdata_offered (s : State) : (captureRdata s).offered = s.offered := rfl
@[simp] theorem captureRdata_responses (s : State) : (captureRdata s).responses = s.responses := rfl
@[simp] theorem captureRdata_bus (s : State) : (captureRdata s).bus = s.bus := rfl
@[simp] theorem captureRdata_xport (s : State) : (captureRdata s).xport = s.xport := rfl
@[simp] theorem captureRdata_timer (s : State) : (captureRdata s).timer = s.timer := rfl
@[simp] theorem captureRdata_host (s : State) : (captureRdata s).host = s.host := rfl

/-! ### captureBurst -/

@[simp] theorem captureBurst_cfg (s : State) : (captureBurst s).cfg = s.cfg := rfl
@[simp] theorem captureBurst_curPage (s : State) : (captureBurst s).curPage = s.curPage := rfl
@[simp] theorem captureBurst_fsm (s : State) : (captureBurst s).fsm = s.fsm := rfl
@[simp] theorem captureBurst_fpos (s : State) : (captureBurst s).fpos = s.fpos := rfl
@[simp] theorem captureBurst_rpos (s : State) : (captureBurst s).rpos = s.rpos := rfl
@[simp] theorem captureBurst_waiting (s : State) : (captureBurst s).waiting = s.waiting := rfl
@[simp] theorem captureBurst_reqOp (s : State) : (captureBurst s).reqOp = s.reqOp := rfl
@[simp] theorem captureBurst_reqPage (s : State) : (captureBurst s).reqPage = s.reqPage := rfl
@[simp] theorem captureBurst_reqOff (s : State) : (captureBurst s).reqOff = s.reqOff := rfl
@[simp] theorem captureBurst_reqData (s : State) : (captureBurst s).reqData = s.reqData := rfl
@[simp] theorem captureBurst_rdata (s : State) : (captureBurst s).rdata = s.rdata := rfl
@[simp] theorem captureBurst_bbuf (s : State) : (captureBurst s).bbuf = s.bbuf.set (s.bk - 1).toNat (assembleWord s.rx0 s.rx1) := rfl
@[simp] theorem captureBurst_bk (s : State) : (captureBurst s).bk = s.bk := rfl
@[simp] theorem captureBurst_xfault (s : State) : (captureBurst s).xfault = s.xfault := rfl
@[simp] theorem captureBurst_csLine (s : State) : (captureBurst s).csLine = s.csLine := rfl
@[simp] theorem captureBurst_rstLine (s : State) : (captureBurst s).rstLine = s.rstLine := rfl
@[simp] theorem captureBurst_devPage (s : State) : (captureBurst s).devPage = s.devPage := rfl
@[simp] theorem captureBurst_devRecovering (s : State) : (captureBurst s).devRecovering = s.devRecovering := rfl
@[simp] theorem captureBurst_rx0 (s : State) : (captureBurst s).rx0 = s.rx0 := rfl
@[simp] theorem captureBurst_rx1 (s : State) : (captureBurst s).rx1 = s.rx1 := rfl
@[simp] theorem captureBurst_aborting (s : State) : (captureBurst s).aborting = s.aborting := rfl
@[simp] theorem captureBurst_rxDraws (s : State) : (captureBurst s).rxDraws = s.rxDraws := rfl
@[simp] theorem captureBurst_pageDraws (s : State) : (captureBurst s).pageDraws = s.pageDraws := rfl
@[simp] theorem captureBurst_offered (s : State) : (captureBurst s).offered = s.offered := rfl
@[simp] theorem captureBurst_responses (s : State) : (captureBurst s).responses = s.responses := rfl
@[simp] theorem captureBurst_bus (s : State) : (captureBurst s).bus = s.bus := rfl
@[simp] theorem captureBurst_xport (s : State) : (captureBurst s).xport = s.xport := rfl
@[simp] theorem captureBurst_timer (s : State) : (captureBurst s).timer = s.timer := rfl
@[simp] theorem captureBurst_host (s : State) : (captureBurst s).host = s.host := rfl

/-! ### waited -/

@[simp] theorem waited_cfg (s : State) : (waited s).cfg = s.cfg := rfl
@[simp] theorem waited_curPage (s : State) : (waited s).curPage = s.curPage := rfl
@[simp] theorem waited_fsm (s : State) : (waited s).fsm = s.fsm := rfl
@[simp] theorem waited_fpos (s : State) : (waited s).fpos = s.fpos := rfl
@[simp] theorem waited_rpos (s : State) : (waited s).rpos = s.rpos := rfl
@[simp] theorem waited_waiting (s : State) : (waited s).waiting = false := rfl
@[simp] theorem waited_reqOp (s : State) : (waited s).reqOp = s.reqOp := rfl
@[simp] theorem waited_reqPage (s : State) : (waited s).reqPage = s.reqPage := rfl
@[simp] theorem waited_reqOff (s : State) : (waited s).reqOff = s.reqOff := rfl
@[simp] theorem waited_reqData (s : State) : (waited s).reqData = s.reqData := rfl
@[simp] theorem waited_rdata (s : State) : (waited s).rdata = s.rdata := rfl
@[simp] theorem waited_bbuf (s : State) : (waited s).bbuf = s.bbuf := rfl
@[simp] theorem waited_bk (s : State) : (waited s).bk = s.bk := rfl
@[simp] theorem waited_xfault (s : State) : (waited s).xfault = s.xfault := rfl
@[simp] theorem waited_csLine (s : State) : (waited s).csLine = s.csLine := rfl
@[simp] theorem waited_rstLine (s : State) : (waited s).rstLine = s.rstLine := rfl
@[simp] theorem waited_devPage (s : State) : (waited s).devPage = s.devPage := rfl
@[simp] theorem waited_devRecovering (s : State) : (waited s).devRecovering = s.devRecovering := rfl
@[simp] theorem waited_rx0 (s : State) : (waited s).rx0 = s.rx0 := rfl
@[simp] theorem waited_rx1 (s : State) : (waited s).rx1 = s.rx1 := rfl
@[simp] theorem waited_aborting (s : State) : (waited s).aborting = s.aborting := rfl
@[simp] theorem waited_rxDraws (s : State) : (waited s).rxDraws = s.rxDraws := rfl
@[simp] theorem waited_pageDraws (s : State) : (waited s).pageDraws = s.pageDraws := rfl
@[simp] theorem waited_offered (s : State) : (waited s).offered = s.offered := rfl
@[simp] theorem waited_responses (s : State) : (waited s).responses = s.responses := rfl
@[simp] theorem waited_bus (s : State) : (waited s).bus = s.bus := rfl
@[simp] theorem waited_xport (s : State) : (waited s).xport = s.xport := rfl
@[simp] theorem waited_timer (s : State) : (waited s).timer = s.timer.tail := rfl
@[simp] theorem waited_host (s : State) : (waited s).host = s.host := rfl

/-! ### rstDeassert -/

@[simp] theorem rstDeassert_cfg (s : State) : (rstDeassert s).cfg = s.cfg := rfl
@[simp] theorem rstDeassert_curPage (s : State) : (rstDeassert s).curPage = if s.cfg.resetResyncsPage then 0x00 else s.curPage := rfl
@[simp] theorem rstDeassert_fsm (s : State) : (rstDeassert s).fsm = .resp := rfl
@[simp] theorem rstDeassert_fpos (s : State) : (rstDeassert s).fpos = .csOn := rfl
@[simp] theorem rstDeassert_rpos (s : State) : (rstDeassert s).rpos = .lineOn := rfl
@[simp] theorem rstDeassert_waiting (s : State) : (rstDeassert s).waiting = false := rfl
@[simp] theorem rstDeassert_reqOp (s : State) : (rstDeassert s).reqOp = s.reqOp := rfl
@[simp] theorem rstDeassert_reqPage (s : State) : (rstDeassert s).reqPage = s.reqPage := rfl
@[simp] theorem rstDeassert_reqOff (s : State) : (rstDeassert s).reqOff = s.reqOff := rfl
@[simp] theorem rstDeassert_reqData (s : State) : (rstDeassert s).reqData = s.reqData := rfl
@[simp] theorem rstDeassert_rdata (s : State) : (rstDeassert s).rdata = s.rdata := rfl
@[simp] theorem rstDeassert_bbuf (s : State) : (rstDeassert s).bbuf = s.bbuf := rfl
@[simp] theorem rstDeassert_bk (s : State) : (rstDeassert s).bk = s.bk := rfl
@[simp] theorem rstDeassert_xfault (s : State) : (rstDeassert s).xfault = s.xfault := rfl
@[simp] theorem rstDeassert_csLine (s : State) : (rstDeassert s).csLine = s.csLine := rfl
@[simp] theorem rstDeassert_rstLine (s : State) : (rstDeassert s).rstLine = false := rfl
@[simp] theorem rstDeassert_devPage (s : State) : (rstDeassert s).devPage = pagePulsed s.reqData s := rfl
@[simp] theorem rstDeassert_devRecovering (s : State) : (rstDeassert s).devRecovering = true := rfl
@[simp] theorem rstDeassert_rx0 (s : State) : (rstDeassert s).rx0 = s.rx0 := rfl
@[simp] theorem rstDeassert_rx1 (s : State) : (rstDeassert s).rx1 = s.rx1 := rfl
@[simp] theorem rstDeassert_aborting (s : State) : (rstDeassert s).aborting = false := rfl
@[simp] theorem rstDeassert_rxDraws (s : State) : (rstDeassert s).rxDraws = s.rxDraws := rfl
@[simp] theorem rstDeassert_pageDraws (s : State) : (rstDeassert s).pageDraws = s.pageDraws + 1 := rfl
@[simp] theorem rstDeassert_offered (s : State) : (rstDeassert s).offered = s.offered := rfl
@[simp] theorem rstDeassert_responses (s : State) : (rstDeassert s).responses = s.responses := rfl
@[simp] theorem rstDeassert_bus (s : State) : (rstDeassert s).bus = s.bus ++ [.rst false] := rfl
@[simp] theorem rstDeassert_xport (s : State) : (rstDeassert s).xport = s.xport := rfl
@[simp] theorem rstDeassert_timer (s : State) : (rstDeassert s).timer = s.timer := rfl
@[simp] theorem rstDeassert_host (s : State) : (rstDeassert s).host = s.host := rfl

/-! ### hostTurn -/

@[simp] theorem hostTurn_cfg (s : State) : (hostTurn s).cfg = s.cfg := by
  unfold hostTurn; split <;> rfl
@[simp] theorem hostTurn_curPage (s : State) : (hostTurn s).curPage = s.curPage := by
  unfold hostTurn; split <;> rfl
@[simp] theorem hostTurn_fsm (s : State) : (hostTurn s).fsm = s.fsm := by
  unfold hostTurn; split <;> rfl
@[simp] theorem hostTurn_fpos (s : State) : (hostTurn s).fpos = s.fpos := by
  unfold hostTurn; split <;> rfl
@[simp] theorem hostTurn_rpos (s : State) : (hostTurn s).rpos = s.rpos := by
  unfold hostTurn; split <;> rfl
@[simp] theorem hostTurn_waiting (s : State) : (hostTurn s).waiting = s.waiting := by
  unfold hostTurn; split <;> rfl
@[simp] theorem hostTurn_reqOp (s : State) : (hostTurn s).reqOp = s.reqOp := by
  unfold hostTurn; split <;> rfl
@[simp] theorem hostTurn_reqPage (s : State) : (hostTurn s).reqPage = s.reqPage := by
  unfold hostTurn; split <;> rfl
@[simp] theorem hostTurn_reqOff (s : State) : (hostTurn s).reqOff = s.reqOff := by
  unfold hostTurn; split <;> rfl
@[simp] theorem hostTurn_reqData (s : State) : (hostTurn s).reqData = s.reqData := by
  unfold hostTurn; split <;> rfl
@[simp] theorem hostTurn_rdata (s : State) : (hostTurn s).rdata = s.rdata := by
  unfold hostTurn; split <;> rfl
@[simp] theorem hostTurn_bbuf (s : State) : (hostTurn s).bbuf = s.bbuf := by
  unfold hostTurn; split <;> rfl
@[simp] theorem hostTurn_bk (s : State) : (hostTurn s).bk = s.bk := by
  unfold hostTurn; split <;> rfl
@[simp] theorem hostTurn_xfault (s : State) : (hostTurn s).xfault = s.xfault := by
  unfold hostTurn; split <;> rfl
@[simp] theorem hostTurn_csLine (s : State) : (hostTurn s).csLine = s.csLine := by
  unfold hostTurn; split <;> rfl
@[simp] theorem hostTurn_rstLine (s : State) : (hostTurn s).rstLine = s.rstLine := by
  unfold hostTurn; split <;> rfl
@[simp] theorem hostTurn_devPage (s : State) : (hostTurn s).devPage = s.devPage := by
  unfold hostTurn; split <;> rfl
@[simp] theorem hostTurn_rx0 (s : State) : (hostTurn s).rx0 = s.rx0 := by
  unfold hostTurn; split <;> rfl
@[simp] theorem hostTurn_rx1 (s : State) : (hostTurn s).rx1 = s.rx1 := by
  unfold hostTurn; split <;> rfl
@[simp] theorem hostTurn_aborting (s : State) : (hostTurn s).aborting = s.aborting := by
  unfold hostTurn; split <;> rfl
@[simp] theorem hostTurn_rxDraws (s : State) : (hostTurn s).rxDraws = s.rxDraws := by
  unfold hostTurn; split <;> rfl
@[simp] theorem hostTurn_pageDraws (s : State) : (hostTurn s).pageDraws = s.pageDraws := by
  unfold hostTurn; split <;> rfl
@[simp] theorem hostTurn_offered (s : State) : (hostTurn s).offered = s.offered := by
  unfold hostTurn; split <;> rfl
@[simp] theorem hostTurn_responses (s : State) : (hostTurn s).responses = s.responses := by
  unfold hostTurn; split <;> rfl
@[simp] theorem hostTurn_bus (s : State) : (hostTurn s).bus = s.bus := by
  unfold hostTurn; split <;> rfl
@[simp] theorem hostTurn_xport (s : State) : (hostTurn s).xport = s.xport := by
  unfold hostTurn; split <;> rfl
@[simp] theorem hostTurn_timer (s : State) : (hostTurn s).timer = s.timer := by
  unfold hostTurn; split <;> rfl
@[simp] theorem hostTurn_host (s : State) : (hostTurn s).host = s.host.tail := by
  unfold hostTurn; split <;> simp [*]

/-- The host's turn clears `devRecovering` exactly when it is `RECOVERED` (R33). -/
theorem hostTurn_devRecovering (s : State) :
    (hostTurn s).devRecovering = (s.devRecovering && s.host.head? != some .recovered) := by
  unfold hostTurn
  split
  · simp [*]
  · rename_i h
    cases hh : s.host with
    | nil => simp
    | cons a l => cases a <;> simp_all

/-- The host's turn never opens the recovery window (R33). -/
theorem hostTurn_devRecovering_false {s : State} (h : s.devRecovering = false) : (hostTurn s).devRecovering = false := by
  simp [hostTurn_devRecovering, h]

/-- All the host's turn does (R33). -/
theorem hostTurn_eq (s : State) :
    hostTurn s = { s with host := s.host.tail, devRecovering := (hostTurn s).devRecovering } := by
  unfold hostTurn; split <;> simp [*]

end Sys2Proof.Machine
end

