-- ==== Sys2Proof/Laws/Ops.lean ====
section
/-! SUPPORT. What each shared operation can do, said once: an event of a frame, a frame, a stall, a frame with its stall, the
reset pulse and the response. -/

namespace Sys2Proof.Machine

/-! ### Positions -/

@[simp] theorem stallOf_ne (x : Fsm) (h : inFrame x = true) : stallOf x ≠ x := by
  cases x <;> simp_all [inFrame, stallOf]

theorem frameEvent_of_ne {x : Fsm} {b0 b1 : Byte} {s : State} (h : s.fsm ≠ x) : frameEvent x b0 b1 s = s :=
  if_neg h

theorem frame_of_ne {x : Fsm} {b0 b1 : Byte} {s : State} (h : s.fsm ≠ x) : frame x b0 b1 s = s := by
  unfold frame; simp only [frameEvent_of_ne h]

theorem stallEvent_of_ne {x : Fsm} {s : State} (h : s.fsm ≠ x) : stallEvent x s = s := if_neg h

theorem stall_of_ne {x : Fsm} {s : State} (h : s.fsm ≠ x) : stall x s = s := by
  unfold stall; simp only [stallEvent_of_ne h]

theorem framePhase_of_ne {x : Fsm} {b0 b1 : Byte} {s : State} (h : s.fsm ≠ x) (h' : s.fsm ≠ stallOf x) :
    framePhase x b0 b1 s = s := by
  unfold framePhase; rw [frame_of_ne h, stall_of_ne h']

theorem respondResult_of_ne {s : State} (h : s.fsm ≠ .resp) : respondResult s = s := if_neg h

theorem respondResult_of_resp {s : State} (h : s.fsm = .resp) :
    respondResult s = respond .ok (resultPayload s) (hostTurn s) := by
  rw [respondResult, if_pos h, respAct, resultPayload, hostTurn_eq]; rfl

/-! ### The host's turns -/

/-- `n` turns of the host (R33). -/
def turns : Nat → State → State
  | 0, s => s
  | n + 1, s => turns n (hostTurn s)

theorem checked_turns (s : State) : checked s = turns 2 s := rfl

/-- After `n` turns of the host the recovery window is open exactly if it was and no turn was `RECOVERED` (R33). -/
theorem turns_devRecovering (n : Nat) (s : State) :
    (turns n s).devRecovering = (s.devRecovering && !(s.host.take n).contains .recovered) := by
  induction n generalizing s with
  | zero => simp [turns]
  | succ n ih =>
    rw [turns, ih, hostTurn_devRecovering, hostTurn_host]
    cases hh : s.host with
    | nil => simp
    | cons a l =>
      have q : (some HostTurn.quiet != some HostTurn.recovered) = true := rfl
      cases a <;> simp [q]

/-- All that `n` turns of the host do. -/
theorem turns_eq (n : Nat) (s : State) :
    turns n s = { s with host := s.host.drop n, devRecovering := (turns n s).devRecovering } := by
  induction n generalizing s with
  | zero => rfl
  | succ n ih => rw [turns, ih, hostTurn_eq s]; simp

theorem turns_devRecovering_false {s : State} (n : Nat) (h : s.devRecovering = false) :
    (turns n s).devRecovering = false := by
  simp [turns_devRecovering, h]

/-- The host's turn commutes with an update that leaves the host's fields alone. -/
theorem hostTurn_comm {f : State → State} (hh : ∀ s, (f s).host = s.host)
    (hf : ∀ (s : State) (l : List HostTurn) (d : Bool),
      { f s with host := l, devRecovering := d } = f { s with host := l, devRecovering := d }) (s : State)
    (hd : (f s).devRecovering = s.devRecovering) : hostTurn (f s) = f (hostTurn s) := by
  rw [hostTurn_eq (f s), hostTurn_eq s, hostTurn_devRecovering, hostTurn_devRecovering, hh, hd, hf]

/-- Entering a position commutes with the host's turns. -/
theorem turns_goto (n : Nat) (x : Fsm) (s : State) : turns n (goto x s) = goto x (turns n s) := by
  induction n generalizing s with
  | zero => rfl
  | succ n ih =>
    rw [turns, turns, ← ih, hostTurn_comm (f := goto x) (fun _ => rfl) (fun _ _ _ => rfl) s rfl]

/-! ### Exchanges -/

/-- With agents that answer and no reported error, every exchange returns a byte: the listed one outside the recovery
window, and a free one past the list (R8, R33, R89). -/
theorem xferAnswer_byte {s : State} (hr : s.Responsive) (he : s.NoReportedError) :
    ∃ r, xferAnswer s = .byte r ∧
      (s.devRecovering = false → ∀ b, s.xport[0]? = some (.byte b) → r = b) := by
  unfold xferAnswer
  cases hx : s.xport with
  | nil => exact ⟨_, rfl, by simp⟩
  | cons a l =>
    cases a with
    | byte b => exact ⟨_, rfl, by intro h; simp [h]⟩
    | silent => exact absurd rfl (hr.1 .silent (by simp [hx]))
    | err =>
      cases hc : s.cfg.xportErrReporting with
      | false => exact ⟨Config.rxDraw s.rxDraws, by simp, by simp⟩
      | true => exact absurd rfl (he hc .err (by simp [hx]))

/-- In the recovery window every byte is free (R33). -/
theorem xferAnswer_recovering {s : State} (hr : s.Responsive) (he : s.NoReportedError) (hd : s.devRecovering = true) :
    xferAnswer s = .byte (Config.rxDraw s.rxDraws) := by
  unfold xferAnswer
  cases hx : s.xport with
  | nil => rfl
  | cons a l =>
    cases a with
    | byte b => simp [hd]
    | silent => exact absurd rfl (hr.1 .silent (by simp [hx]))
    | err =>
      cases hc : s.cfg.xportErrReporting with
      | false => simp
      | true => exact absurd rfl (he hc .err (by simp [hx]))

theorem timerEnds_of_responsive {s : State} (h : ∀ a ∈ s.timer, a ≠ TimerAnswer.pending) : timerEnds s = true := by
  unfold timerEnds
  split
  · rename_i l hl; exact absurd rfl (h .pending (by simp [hl]))
  · rfl

/-! ### A frame that completes -/

/-- The state after the two exchanges of the frame of `x`, before its `CS(deassert)`. -/
def exchanged (x : Fsm) (b0 b1 r0 r1 : Byte) (s : State) : State :=
  { s with
    csLine := true, fpos := .csOff
    rx0 := if captures x then r0 else s.rx0
    rx1 := if captures x then r1 else s.rx1
    xport := s.xport.tail.tail, rxDraws := s.rxDraws + 1 + 1
    bus := s.bus ++ [.cs true] ++ [.xfer b0 r0] ++ [.xfer b1 r1] }

theorem frameEvent_csOn {x : Fsm} {b0 b1 : Byte} {s : State} (hx : s.fsm = x) (hp : s.fpos = .csOn) :
    frameEvent x b0 b1 s = csAssert (hostTurn s) := by
  simp [frameEvent, frameAct, hx, hp]

theorem frameEvent_b0 {x : Fsm} {b0 b1 r : Byte} {s : State} (hx : s.fsm = x) (hp : s.fpos = .b0)
    (h : xferAnswer (hostTurn s) = .byte r) :
    frameEvent x b0 b1 s =
      emit (.xfer b0 r) (answered { hostTurn s with fpos := .b1, rx0 := if captures x then r else s.rx0 }) := by
  simp [frameEvent, frameAct, hx, hp, xferFirst, h]

theorem frameEvent_b1 {x : Fsm} {b0 b1 r : Byte} {s : State} (hx : s.fsm = x) (hp : s.fpos = .b1)
    (h : xferAnswer (hostTurn s) = .byte r) :
    frameEvent x b0 b1 s =
      emit (.xfer b1 r) (answered { hostTurn s with fpos := .csOff, rx1 := if captures x then r else s.rx1 }) := by
  simp [frameEvent, frameAct, hx, hp, xferSecond, h]

theorem frameEvent_csOff {x : Fsm} {b0 b1 : Byte} {s : State} (hx : s.fsm = x) (hp : s.fpos = .csOff)
    (ha : s.aborting = false) : frameEvent x b0 b1 s = csDeassert x b0 b1 (hostTurn s) := by
  simp [frameEvent, frameAct, hx, hp, ha]

/-- The state after the first exchange of the frame of `x`. -/
def exchangedFirst (x : Fsm) (b0 r0 : Byte) (s : State) : State :=
  emit (.xfer b0 r0) (answered { csAssert s with fpos := .b1, rx0 := if captures x then r0 else s.rx0 })

/-- A frame whose exchanges return bytes completes (R83); each of its four events is begun by the host's turn. -/
theorem frame_done {x : Fsm} {b0 b1 r0 r1 : Byte} {s : State} (hx : s.fsm = x) (hp : s.fpos = .csOn)
    (ha : s.aborting = false) (h0 : xferAnswer (turns 2 s) = .byte r0)
    (h1 : xferAnswer (answered (turns 3 s)) = .byte r1) :
    frame x b0 b1 s = csDeassert x b0 b1 (exchanged x b0 b1 r0 r1 (turns 4 s)) := by
  have c1 : hostTurn (csAssert (turns 1 s)) = csAssert (turns 2 s) :=
    hostTurn_comm (f := csAssert) (fun _ => rfl) (fun _ _ _ => rfl) _ rfl
  have c2 : hostTurn (exchangedFirst x b0 r0 (turns 2 s)) = exchangedFirst x b0 r0 (turns 3 s) :=
    hostTurn_comm (f := exchangedFirst x b0 r0) (fun _ => rfl) (fun _ _ _ => rfl) _ rfl
  have c3 : hostTurn (exchanged x b0 b1 r0 r1 (turns 3 s)) = exchanged x b0 b1 r0 r1 (turns 4 s) :=
    hostTurn_comm (f := exchanged x b0 b1 r0 r1) (fun _ => rfl) (fun _ _ _ => rfl) _ rfl
  have e0 : frameEvent x b0 b1 s = csAssert (turns 1 s) := frameEvent_csOn hx hp
  have e1 : frameEvent x b0 b1 (csAssert (turns 1 s)) = exchangedFirst x b0 r0 (turns 2 s) := by
    rw [frameEvent_b0 (r := r0) (by simpa [turns] using hx) rfl (by rw [c1]; exact h0), c1]
    simp [exchangedFirst, turns]
  have e2 : frameEvent x b0 b1 (exchangedFirst x b0 r0 (turns 2 s)) = exchanged x b0 b1 r0 r1 (turns 3 s) := by
    rw [frameEvent_b1 (r := r1) (by simpa [exchangedFirst, turns] using hx) rfl (by rw [c2]; exact h1), c2]
    simp [exchangedFirst, exchanged, emit, answered, csAssert, turns]
  have e3 : frameEvent x b0 b1 (exchanged x b0 b1 r0 r1 (turns 3 s)) =
      csDeassert x b0 b1 (exchanged x b0 b1 r0 r1 (turns 4 s)) := by
    rw [frameEvent_csOff (by simpa [exchanged, turns] using hx) rfl (by simpa [exchanged, turns] using ha), c3]
  unfold frame
  rw [e0, e1, e2, e3]

/-- A wait the timer ends: emitted, then ended (R10). -/
theorem stall_done {x : Fsm} {s : State} (hx : s.fsm = x) (hw : s.waiting = false) (ht : timerEnds s = true) :
    stall x s = afterStall x (waited (emit (.waitUs (stallUs x s.cfg)) (turns 2 s))) := by
  have e0 : stallEvent x s = emit (.waitUs (stallUs x s.cfg)) { hostTurn s with waiting := true } := by
    simp [stallEvent, stallAct, waitAct, hx, hw]
  have c1 : hostTurn (emit (.waitUs (stallUs x s.cfg)) { hostTurn s with waiting := true }) =
      emit (.waitUs (stallUs x s.cfg)) { turns 2 s with waiting := true } :=
    hostTurn_comm (f := fun s' => emit (.waitUs (stallUs x s.cfg)) { s' with waiting := true }) (fun _ => rfl)
      (fun _ _ _ => rfl) _ rfl
  have ht' : timerEnds (emit (.waitUs (stallUs x s.cfg)) { turns 2 s with waiting := true }) = true := by
    simpa [timerEnds, turns] using ht
  unfold stall
  rw [e0, stallEvent, if_pos (by simpa using hx), c1, stallAct, waitAct, if_pos (by simp), if_pos ht']
  rfl

/-- The state of a frame phase before what follows the stall: everything a frame and its stall write (R28, R82, R83,
R164), with the six turns of the host. -/
def framed (x : Fsm) (b0 b1 r0 r1 : Byte) (s : State) : State :=
  { s with
    fsm := stallOf x, fpos := .csOn, rpos := .lineOn, waiting := false, aborting := false, csLine := false
    curPage := if x = .psel then b1 else s.curPage
    devPage := latchedPage b0 b1 (turns 4 s), pageDraws := s.pageDraws + 1
    devRecovering := (turns 6 s).devRecovering
    rx0 := if captures x then r0 else s.rx0
    rx1 := if captures x then r1 else s.rx1
    xport := s.xport.drop 2, rxDraws := s.rxDraws + 2, timer := s.timer.drop 1, host := s.host.drop 6
    bus := s.bus ++ frameTrace b0 b1 r0 r1 (stallUs (stallOf x) s.cfg) }

/-- A frame and its stall, when the agents answer (R83, R164). -/
theorem framePhase_framed {x : Fsm} {b0 b1 r0 r1 : Byte} {s : State} (hx : s.fsm = x) (hp : s.fpos = .csOn)
    (ha : s.aborting = false) (h0 : xferAnswer (turns 2 s) = .byte r0)
    (h1 : xferAnswer (answered (turns 3 s)) = .byte r1) (ht : timerEnds s = true) :
    framePhase x b0 b1 s = afterStall (stallOf x) (framed x b0 b1 r0 r1 s) := by
  unfold framePhase
  rw [frame_done hx hp ha h0 h1, stall_done (x := stallOf x) rfl rfl (by simpa [exchanged, timerEnds, turns] using ht), turns_eq 2]
  congr 1
  have hd : (turns 2 (csDeassert x b0 b1 (exchanged x b0 b1 r0 r1 (turns 4 s)))).devRecovering =
      (turns 6 s).devRecovering := by
    rw [turns_devRecovering, csDeassert_devRecovering, csDeassert_host]
    have : turns 6 s = turns 2 (turns 4 s) := rfl
    rw [this, turns_devRecovering 2]
    rfl
  rw [hd]
  simp [waited, emit, csDeassert, goto, framed, frameTrace, exchanged, turns, latchedPage, List.append_assoc,
    ← List.drop_one]

/-! ### The agents' premises are kept -/

theorem State.Responsive.answered {s : State} (h : s.Responsive) : (answered s).Responsive :=
  ⟨fun a ha => h.1 a (List.mem_of_mem_tail ha), h.2⟩

theorem State.NoReportedError.answered {s : State} (h : s.NoReportedError) : (answered s).NoReportedError :=
  fun hc a ha => h hc a (List.mem_of_mem_tail ha)

theorem State.Responsive.turns {s : State} (h : s.Responsive) (n : Nat) : (turns n s).Responsive := by
  rw [turns_eq]; exact h

theorem State.NoReportedError.turns {s : State} (h : s.NoReportedError) (n : Nat) : (turns n s).NoReportedError := by
  rw [turns_eq]; exact h

theorem State.Responsive.of_drop {s t : State} (h : s.Responsive) (n m : Nat) (hx : t.xport = s.xport.drop n)
    (ht : t.timer = s.timer.drop m) : t.Responsive :=
  ⟨fun a ha => h.1 a (List.mem_of_mem_drop (hx ▸ ha)), fun a ha => h.2 a (List.mem_of_mem_drop (ht ▸ ha))⟩

theorem State.NoReportedError.of_drop {s t : State} (h : s.NoReportedError) (n : Nat) (hc : t.cfg = s.cfg)
    (hx : t.xport = s.xport.drop n) : t.NoReportedError :=
  fun hr a ha => h (hc ▸ hr) a (List.mem_of_mem_drop (hx ▸ ha))

/-- A frame phase with agents that answer: some two bytes, the listed ones outside the recovery window (R8, R83). -/
theorem framePhase_responsive {x : Fsm} {b0 b1 : Byte} {s : State} (hx : s.fsm = x) (hp : s.fpos = .csOn)
    (ha : s.aborting = false) (hr : s.Responsive) (he : s.NoReportedError) :
    ∃ r0 r1, framePhase x b0 b1 s = afterStall (stallOf x) (framed x b0 b1 r0 r1 s) ∧
      (s.devRecovering = false → ∀ b, s.xport[0]? = some (.byte b) → r0 = b) ∧
      (s.devRecovering = false → ∀ b, s.xport[1]? = some (.byte b) → r1 = b) := by
  obtain ⟨r0, h0, l0⟩ := xferAnswer_byte (hr.turns 2) (he.turns 2)
  obtain ⟨r1, h1, l1⟩ := xferAnswer_byte (hr.turns 3).answered (he.turns 3).answered
  refine ⟨r0, r1, framePhase_framed hx hp ha h0 h1 (timerEnds_of_responsive hr.2), ?_, ?_⟩
  · intro hd b hb
    exact l0 (turns_devRecovering_false 2 hd) b (by rw [turns_eq]; exact hb)
  · intro hd b hb
    have hx : (answered (turns 3 s)).xport = s.xport.tail := by rw [turns_eq 3]; rfl
    exact l1 (turns_devRecovering_false 3 hd) b (by rw [hx]; simpa [List.getElem?_tail] using hb)

/-! ### Every event of a frame keeps these -/

/-- What one event of a frame can do, after the host's turn: wait for its answer, move on inside the frame, end the
operation, or complete the frame. -/
theorem frameAct_cases (x : Fsm) (b0 b1 : Byte) (s : State) :
    ((s.fpos = .b0 ∨ s.fpos = .b1) ∧ xferAnswer s = .silent ∧ frameAct x b0 b1 s = s) ∨
    (s.fpos = .csOn ∧ frameAct x b0 b1 s = csAssert s) ∨
    (s.fpos = .b0 ∧ xferAnswer s = .err ∧ frameAct x b0 b1 s =
      emit (.xferErr b0) (answered { s with fpos := .csOff, aborting := true })) ∨
    (s.fpos = .b0 ∧ ∃ r, xferAnswer s = .byte r ∧ frameAct x b0 b1 s =
      emit (.xfer b0 r) (answered { s with fpos := .b1, rx0 := if captures x then r else s.rx0 })) ∨
    (s.fpos = .b1 ∧ xferAnswer s = .err ∧ frameAct x b0 b1 s =
      emit (.xferErr b1) (answered { s with fpos := .csOff, aborting := true })) ∨
    (s.fpos = .b1 ∧ ∃ r, xferAnswer s = .byte r ∧ frameAct x b0 b1 s =
      emit (.xfer b1 r) (answered { s with fpos := .csOff, rx1 := if captures x then r else s.rx1 })) ∨
    (s.fpos = .csOff ∧ s.aborting = true ∧ frameAct x b0 b1 s = transportFault s) ∨
    (s.fpos = .csOff ∧ s.aborting = false ∧ frameAct x b0 b1 s = csDeassert x b0 b1 s) := by
  unfold frameAct
  cases hp : s.fpos with
  | csOn => simp
  | b0 => unfold xferFirst; cases h : xferAnswer s <;> simp
  | b1 => unfold xferSecond; cases h : xferAnswer s <;> simp
  | csOff => cases ha : s.aborting <;> simp

/-- A property every event of a frame keeps is kept by the frame. -/
theorem frame_keeps {P : State → Prop} {x : Fsm} {b0 b1 : Byte}
    (h : ∀ s, P s → P (frameEvent x b0 b1 s)) {s : State} (hs : P s) : P (frame x b0 b1 s) :=
  h _ (h _ (h _ (h _ hs)))

/-- A reported error is the listed one, with reporting on (R143). -/
theorem xferAnswer_err {s : State} (h : xferAnswer s = .err) :
    s.cfg.xportErrReporting = true ∧ ∃ l, s.xport = .err :: l := by
  unfold xferAnswer at h
  split at h
  · cases h
  · cases h
  · rename_i l hl; split at h
    · exact ⟨‹_›, l, hl⟩
    · cases h
  · cases h

end Sys2Proof.Machine
end

