-- ==== Sys2Proof/Laws/PerInstr.lean ====
section
/-! SUPPORT. A law made for each instruction: the word of a well-formed instruction matches that instruction's row of the
opcode table (mask and match), read as syntax only. -/

namespace Sys2Proof.Laws

/-- The word that `encode` gives, as a number. -/
def encodedNat (i : Instr) : Nat :=
  match encode i with
  | .request w => w.toNat
  | .frame _ w => w.toNat

/-- The `mask` of the instruction's row of the opcode table. -/
def rowMask : Instr → Nat
  | .readReg _ _ => 0xFF0081FFFF
  | .writeReg _ _ _ => 0xFF00810000
  | .readBurst => 0xFFFFFFFFFF
  | .resetDev _ => 0xFFFFFF0000
  | .scaleAccl _ => 0xFFFFFF0000
  | .scaleGyro _ => 0xFFFFFF0000
  | .scaleTemp _ => 0xFFFFFF0000
  | .scaleDang _ => 0xFFFFFF0000
  | .scaleDvel _ => 0xFFFFFF0000
  | .psel _ => 0xFF00
  | .raddr _ => 0x81FF
  | .rdata => 0xFFFF
  | .wlo _ _ => 0x8100
  | .whi _ _ => 0x8100
  | .breq _ => 0x81FF
  | .bend _ => 0x81FF

/-- The `match` of the instruction's row of the opcode table. -/
def rowMatch : Instr → Nat
  | .readReg _ _ => 0x0000000000
  | .writeReg _ _ _ => 0x1000000000
  | .readBurst => 0x2000000000
  | .resetDev _ => 0x3000000000
  | .scaleAccl _ => 0x8000000000
  | .scaleGyro _ => 0x9000000000
  | .scaleTemp _ => 0xA000000000
  | .scaleDang _ => 0xB000000000
  | .scaleDvel _ => 0xC000000000
  | .psel _ => 0x8000
  | .raddr _ => 0x0000
  | .rdata => 0x0000
  | .wlo _ _ => 0x8000
  | .whi _ _ => 0x8100
  | .breq _ => 0x0000
  | .bend _ => 0x0000

/-- The encoding of a well-formed instruction matches its row of the opcode table (R61, R66). -/
def TableRow.Statement (i : Instr) : Prop :=
  i.wellFormed = true → encodedNat i &&& rowMask i = rowMatch i

/-! ### Bits of the words -/

/-- Masked to the fields that must be 0, an `addr`-less word keeps its op code only. -/
theorem requestWord_addr_zero (op : BitVec 4) (data : Word) :
    requestWord op 0 data &&& 0xFFFFFF0000#40 = requestWord op 0 0 := by
  apply BitVec.eq_of_getLsbD_eq
  intro i hi
  simp only [requestWord, BitVec.getLsbD_and, BitVec.getLsbD_append]
  interval_cases i <;> simp

/-- The masked word of a register access: bits 0 and 7 of an admitted offset are 0. -/
theorem requestWord_access (op : BitVec 4) (page off : Byte) (data : Word) (h : admittedOff off = true) :
    requestWord op (page ++ off) data &&& 0xFF00810000#40 = requestWord op 0 0 := by
  have h0 : off[0] = false := by simp [admittedOff] at h; exact h.1
  have h7 : off[7] = false := by simp [admittedOff] at h; exact h.2
  apply BitVec.eq_of_getLsbD_eq
  intro i hi
  simp only [requestWord, BitVec.getLsbD_and, BitVec.getLsbD_append]
  interval_cases i <;> simp [h0, h7]

theorem requestWord_access_zero (op : BitVec 4) (page off : Byte) (h : admittedOff off = true) :
    requestWord op (page ++ off) 0 &&& 0xFF0081FFFF#40 = requestWord op 0 0 := by
  have h0 : off[0] = false := by simp [admittedOff] at h; exact h.1
  have h7 : off[7] = false := by simp [admittedOff] at h; exact h.2
  apply BitVec.eq_of_getLsbD_eq
  intro i hi
  simp only [requestWord, BitVec.getLsbD_and, BitVec.getLsbD_append]
  interval_cases i <;> simp [h0, h7]

theorem masked_nat {w m v : BitVec 40} (h : w &&& m = v) : w.toNat &&& m.toNat = v.toNat := by
  rw [← h]; simp

theorem masked_frame {w m v : BitVec 16} (h : w &&& m = v) : w.toNat &&& m.toNat = v.toNat := by
  rw [← h]; simp

/-- A read-request frame of an admitted offset (R66). -/
theorem readFrame_masked (off : Byte) (h : admittedOff off = true) : frameWord off 0x00 &&& 0x81FF#16 = 0#16 := by
  have h0 : off[0] = false := by simp [admittedOff] at h; exact h.1
  have h7 : off[7] = false := by simp [admittedOff] at h; exact h.2
  apply BitVec.eq_of_getLsbD_eq
  intro i hi
  simp only [frameWord, BitVec.getLsbD_and, BitVec.getLsbD_append]
  interval_cases i <;> simp [h0, h7]

/-- A frame masked to bits of its first byte depends on that byte only. -/
theorem frameWord_first (b0 b1 m : Byte) : frameWord b0 b1 &&& frameWord m 0x00 = frameWord (b0 &&& m) 0x00 := by
  apply BitVec.eq_of_getLsbD_eq
  intro i hi
  simp only [frameWord, BitVec.getLsbD_and, BitVec.getLsbD_append]
  split <;> simp

theorem wloB0_masked (off : Byte) : admittedOff off = true → wloB0 off &&& 0x81 = 0x80 := by
  revert off; decide

theorem whiB0_masked (off : Byte) : admittedOff off = true → whiB0 off &&& 0x81 = 0x81 := by
  revert off; decide

/-! ### One lemma for each instruction -/

theorem TableRow.readReg (page off : Byte) : TableRow.Statement (.readReg page off) :=
  fun h => masked_nat (requestWord_access_zero 0x0 page off h)

theorem TableRow.writeReg (page off : Byte) (value : Word) : TableRow.Statement (.writeReg page off value) :=
  fun h => masked_nat (requestWord_access 0x1 page off value h)

theorem TableRow.readBurst : TableRow.Statement .readBurst := fun _ => by decide

theorem TableRow.resetDev (ms : Word) : TableRow.Statement (.resetDev ms) :=
  fun _ => masked_nat (requestWord_addr_zero 0x3 ms)

theorem TableRow.scaleAccl (raw : Word) : TableRow.Statement (.scaleAccl raw) :=
  fun _ => masked_nat (requestWord_addr_zero 0x8 raw)

theorem TableRow.scaleGyro (raw : Word) : TableRow.Statement (.scaleGyro raw) :=
  fun _ => masked_nat (requestWord_addr_zero 0x9 raw)

theorem TableRow.scaleTemp (raw : Word) : TableRow.Statement (.scaleTemp raw) :=
  fun _ => masked_nat (requestWord_addr_zero 0xA raw)

theorem TableRow.scaleDang (raw : Word) : TableRow.Statement (.scaleDang raw) :=
  fun _ => masked_nat (requestWord_addr_zero 0xB raw)

theorem TableRow.scaleDvel (raw : Word) : TableRow.Statement (.scaleDvel raw) :=
  fun _ => masked_nat (requestWord_addr_zero 0xC raw)

theorem TableRow.psel (page : Byte) : TableRow.Statement (.psel page) :=
  fun _ => masked_frame (frameWord_first 0x80 page 0xFF)

theorem TableRow.raddr (off : Byte) : TableRow.Statement (.raddr off) :=
  fun h => masked_frame (readFrame_masked off h)

theorem TableRow.rdata : TableRow.Statement .rdata := fun _ => by decide

theorem TableRow.wlo (off lo : Byte) : TableRow.Statement (.wlo off lo) := fun h =>
  masked_frame (v := frameWord 0x80 0x00) ((frameWord_first (wloB0 off) lo 0x81).trans (by rw [wloB0_masked off h]))

theorem TableRow.whi (off hi : Byte) : TableRow.Statement (.whi off hi) := fun h =>
  masked_frame (v := frameWord 0x81 0x00) ((frameWord_first (whiB0 off) hi 0x81).trans (by rw [whiB0_masked off h]))

theorem TableRow.breq (off : Byte) : TableRow.Statement (.breq off) :=
  fun h => masked_frame (readFrame_masked off h)

theorem TableRow.bend (off : Byte) : TableRow.Statement (.bend off) :=
  fun h => masked_frame (readFrame_masked off h)

end Sys2Proof.Laws
end

