-- ==== Sys2Proof/Laws/Sequencer.lean ====
section
/-! SUPPORT. What the shared sub-sequences can do, said once: the page decision with its page select (R80, R81), the reset
pulse (R120), a stall, an event of the pulse, and the admission of a request. -/

namespace Sys2Proof.Machine

/-- The page decision and the page select, when the agents answer: on a hit nothing is sent, on a miss one page-select
frame; either way the access starts at `first` on `page` (R80, R81, R86). -/
theorem select_responsive {s : State} {first : Fsm} {page : Byte} (hp : s.reqPage = page)
    (hf : firstState s.reqOp = first) (h1 : first ≠ .psel) (h2 : first ≠ .pselWait) (hr : s.Responsive)
    (he : s.NoReportedError) :
    ∃ (r0 r1 dp : Byte) (dr : Bool) (rd pd : Nat),
      (s.devRecovering = false → page ≠ s.curPage → ∀ b, s.xport[0]? = some (.byte b) → r0 = b) ∧
      (s.devRecovering = false → page ≠ s.curPage → ∀ b, s.xport[1]? = some (.byte b) → r1 = b) ∧
      selectPage page (pageDecision first s) =
        { s with
          fsm := first, fpos := .csOn, rpos := .lineOn, waiting := false, aborting := false
          csLine := if page = s.curPage then s.csLine else false
          curPage := page, devPage := dp, devRecovering := dr, rxDraws := rd, pageDraws := pd
          xport := s.xport.drop (selectXfers s page), timer := s.timer.drop (selectXfers s page / 2)
          host := s.host.drop (3 * selectXfers s page)
          bus := s.bus ++ selectTrace s page (fun k => if k = 0 then r0 else r1) } ∧
      (s.devRecovering = false → dr = false ∧ dp = if page = s.curPage then s.devPage else page) := by
  unfold pageDecision selectPage
  by_cases h : page = s.curPage
  · rw [if_pos (hp.trans h), framePhase_of_ne (by simpa using h1) (by simpa [stallOf] using h2)]
    refine ⟨0, 0, s.devPage, s.devRecovering, s.rxDraws, s.pageDraws, fun _ hn => absurd h hn,
      fun _ hn => absurd h hn, ?_, by simp [h]⟩
    simp [goto, selectXfers, selectTrace, h]
  · rw [if_neg (by rw [hp]; exact h)]
    obtain ⟨r0, r1, e, l0, l1⟩ := framePhase_responsive (x := .psel) (b0 := 0x80) (b1 := page) (s := goto .psel s)
      rfl rfl rfl ⟨hr.1, hr.2⟩ he
    refine ⟨r0, r1, latchedPage 0x80 page (turns 4 s), (turns 6 s).devRecovering, s.rxDraws + 2, s.pageDraws + 1,
      fun hd _ => l0 hd, fun hd _ => l1 hd, ?_, ?_⟩
    · rw [e]
      simp only [stallOf, afterStall, framed, turns_goto]
      simp [goto, selectXfers, selectTrace, h, hf, captures, latchedPage, stallUs]
    · intro hd
      exact ⟨turns_devRecovering_false _ hd, by simp [latchedPage, turns_devRecovering_false 4 hd, h]⟩

/-- What a wait can do, after the host's turn: be emitted, end, or go on (R10, R154). -/
theorem waitAct_cases (e : BusEvent) (next : State → State) (s : State) :
    (s.waiting = false ∧ waitAct e next s = emit e { s with waiting := true }) ∨
    (s.waiting = true ∧ timerEnds s = true ∧ waitAct e next s = next (waited s)) ∨
    (s.waiting = true ∧ timerEnds s = false ∧ waitAct e next s = s) := by
  unfold waitAct
  cases hw : s.waiting <;> cases ht : timerEnds s <;> simp

/-- What the next part of a reset pulse can do, after the host's turn (R10, R120). -/
theorem resetAct_cases (s : State) :
    (s.rpos = .lineOn ∧ resetAct s = emit (.rst true) { s with rstLine := true, rpos := .wait }) ∨
    (s.rpos = .wait ∧ s.waiting = false ∧ resetAct s = emit (.waitMs s.reqData.toNat) { s with waiting := true }) ∨
    (s.rpos = .wait ∧ s.waiting = true ∧ timerEnds s = true ∧ resetAct s = { waited s with rpos := .lineOff }) ∨
    (s.rpos = .wait ∧ s.waiting = true ∧ timerEnds s = false ∧ resetAct s = s) ∨
    (s.rpos = .lineOff ∧ resetAct s = rstDeassert s) := by
  unfold resetAct
  cases hp : s.rpos with
  | lineOn => simp
  | wait => unfold waitAct; cases hw : s.waiting <;> cases ht : timerEnds s <;> simp [hp]
  | lineOff => simp

/-- What `S_RESP` can do. -/
theorem respondResult_cases (s : State) :
    respondResult s = s ∨ (s.fsm = .resp ∧ respondResult s = respond .ok (resultPayload s) (hostTurn s)) := by
  by_cases h : s.fsm = .resp
  · exact .inr ⟨h, respondResult_of_resp h⟩
  · exact .inl (respondResult_of_ne h)

/-- The page decision goes to the page select or to the first access state (R80). -/
theorem pageDecision_cases (first : Fsm) (s : State) :
    (s.reqPage = s.curPage ∧ pageDecision first s = goto first s) ∨
    (s.reqPage ≠ s.curPage ∧ pageDecision first s = goto .psel s) := by
  unfold pageDecision
  split
  · exact .inl ⟨‹_›, rfl⟩
  · exact .inr ⟨‹_›, rfl⟩

/-- The reset pulse with a timer that answers: its events, the host's four turns, and what takes effect at the end (R10,
R33, R120). -/
theorem pulseReset_done {s : State} (hx : s.fsm = .rst) (hp : s.rpos = .lineOn) (hw : s.waiting = false)
    (ht : timerEnds s = true) :
    pulseReset s =
      { s with
        fsm := .resp, fpos := .csOn, rpos := .lineOn, waiting := false, aborting := false, rstLine := false
        devPage := pagePulsed s.reqData s, pageDraws := s.pageDraws + 1, devRecovering := true
        curPage := if s.cfg.resetResyncsPage then 0x00 else s.curPage
        timer := s.timer.tail, host := s.host.drop 4
        bus := s.bus ++ [.rst true, .waitMs s.reqData.toNat, .rst false] } := by
  have e1 : ∀ u : State, u.fsm = .rst → u.rpos = .lineOn →
      resetEvent u = emit (.rst true) { hostTurn u with rstLine := true, rpos := .wait } := by
    intro u h h1; simp [resetEvent, resetAct, h, h1]
  have e2 : ∀ u : State, u.fsm = .rst → u.rpos = .wait → u.waiting = false →
      resetEvent u = emit (.waitMs u.reqData.toNat) { hostTurn u with waiting := true } := by
    intro u h h1 h2; simp [resetEvent, resetAct, waitAct, h, h1, h2]
  have e3 : ∀ u : State, u.fsm = .rst → u.rpos = .wait → u.waiting = true → timerEnds u = true →
      resetEvent u = { waited (hostTurn u) with rpos := .lineOff } := by
    intro u h h1 h2 h3
    have h4 : timerEnds (hostTurn u) = true := by simpa [timerEnds] using h3
    simp [resetEvent, resetAct, waitAct, h, h1, h2, h4]
  have e4 : ∀ u : State, u.fsm = .rst → u.rpos = .lineOff → resetEvent u = rstDeassert (hostTurn u) := by
    intro u h h1; simp [resetEvent, resetAct, h, h1]
  unfold pulseReset
  rw [e1 s hx hp]
  generalize ha : emit (.rst true) { hostTurn s with rstLine := true, rpos := .wait } = a
  rw [e2 a (by simp [← ha, hx]) (by simp [← ha]) (by simp [← ha, hw])]
  generalize hb : emit (.waitMs a.reqData.toNat) { hostTurn a with waiting := true } = b
  have hbt : timerEnds b = true := by simpa [← hb, ← ha, timerEnds] using ht
  rw [e3 b (by simp [← hb, ← ha, hx]) (by simp [← hb, ← ha]) (by simp [← hb]) hbt, e4 _ (by simp [← hb, ← ha, hx]) rfl]
  simp [← hb, ← ha, rstDeassert, goto, emit, pagePulsed, waited, ← List.drop_one]

end Sys2Proof.Machine
end

