-- ==== Sys2Proof/Tests/Slice0.lean ====
section
/-! SUPPORT. Tests. Expected values are from spec/95_test_vectors.md (section L1 and L2 numbers in the comments) or written out
from the tables of R61, R66 and R21; then one witness for the hypotheses of each statement that has any. -/

namespace Sys2Proof.Tests

open Sys2Proof Sys2Proof.Machine

/-! ### Fixtures -/

/-- The burst configuration CFG_T of 95: 0A 0C 12 16 1A 1E 22 26 0E, dummy 00. -/
def burstT : BurstConfig :=
  ⟨⟨⟨0x05⟩, ⟨0x06⟩, ⟨0x09⟩, ⟨0x0B⟩, ⟨0x0D⟩, ⟨0x0F⟩, ⟨0x11⟩, ⟨0x13⟩, ⟨0x07⟩⟩, ⟨0x00⟩⟩

/-- The raw offsets of CFG_T. -/
def rawT : BurstFields Byte := ⟨0x0A, 0x0C, 0x12, 0x16, 0x1A, 0x1E, 0x22, 0x26, 0x0E⟩

/-- The parameters of 95 section 0, with `T_RST_MIN` of 10 ms. -/
def cfgT : Params where
  tStallUs := 5
  tBurstStallUs := 10
  burst := burstT
  xportErrReporting := false
  resetResyncsPage := false
  tRstMinUs := 10000
  tResetRecoveryUs := 0
  fSclkHz := 1000000
  csActiveLevel := false
  rstActiveLevel := false
  scaleFmt := .binary32

/-- An idle block and a device on one page, and the bytes the device will answer. -/
def demo (page : Byte) (rx : List Byte) : State :=
  { State.initial cfgT with curPage := page, devPage := page, xport := rx.map .byte }

/-- `demo` with error reporting, and these answers. -/
def reporting (answers : List XferAnswer) : State :=
  { State.initial { cfgT with xportErrReporting := true } with xport := answers }

/-- `demo` at a sequencer position, with an operation in flight. -/
def at_ (x : Fsm) (f : FPos) (op : BitVec 4) : State :=
  { demo 0x03 [] with fsm := x, fpos := f, reqOp := op, reqPage := 0x03, reqOff := 0x12, reqData := 0x1234 }

/-- What the tests look at. -/
structure Seen where
  bus : List BusEvent
  curPage : Byte
  devPage : Byte
  responses : List Response
  fsm : Fsm
  deriving DecidableEq, Repr

/-- The next state, as far as the tests look at it. -/
def seen : Host.Outcome State Fault Refusal → Option Seen
  | .next t => some ⟨t.bus, t.curPage, t.devPage, t.responses, t.fsm⟩
  | _ => none

/-- The payload of the only response. -/
def payloadOf : Host.Outcome State Fault Refusal → Option Payload
  | .next t => (t.responses.getLast?).map (·.payload)
  | _ => none

/-! ### WellFormed: an ill-formed term for each check (R47, R48, R66, R105) -/

theorem test_illFormed_readReg_odd : (Instr.readReg 0x03 0x11).wellFormed = false := by decide
theorem test_illFormed_readReg_bit7 : (Instr.readReg 0x03 0x90).wellFormed = false := by decide
theorem test_illFormed_writeReg_odd : (Instr.writeReg 0x00 0x7F 0).wellFormed = false := by decide
theorem test_illFormed_writeReg_bit7 : (Instr.writeReg 0x00 0x80 0).wellFormed = false := by decide
theorem test_illFormed_raddr : (Instr.raddr 0x11).wellFormed = false := by decide
theorem test_illFormed_wlo : (Instr.wlo 0x90 0).wellFormed = false := by decide
theorem test_illFormed_whi : (Instr.whi 0x11 0).wellFormed = false := by decide
theorem test_illFormed_breq : (Instr.breq 0x17).wellFormed = false := by decide
theorem test_illFormed_bend : (Instr.bend 0x96).wellFormed = false := by decide

/-! ### Decoding: a word of each row, written out from R60 and R61, or R64 to R66 -/

/-- op 0000, rsv 0000, addr 0000_0011 0001_0010, data 0 (L2.1 #1). -/
theorem test_decode_readReg : decodeTableWord 40 0x0003120000 = some (.readReg 0x03 0x12) := by decide
/-- op 0001, addr 0x0310, data 0x1234 (L1.3). -/
theorem test_decode_writeReg : decodeTableWord 40 0x1003101234 = some (.writeReg 0x03 0x10 0x1234) := by decide
/-- op 0010 and nothing else. -/
theorem test_decode_readBurst : decodeTableWord 40 0x2000000000 = some .readBurst := by decide
/-- op 0011, data 10 (L2.5 #1). -/
theorem test_decode_resetDev : decodeTableWord 40 0x300000000A = some (.resetDev 10) := by decide
/-- op 1000, data 2 (L1.5). -/
theorem test_decode_scaleAccl : decodeTableWord 40 0x8000000002 = some (.scaleAccl 2) := by decide
/-- op 1001, data 200 (L1.5). -/
theorem test_decode_scaleGyro : decodeTableWord 40 0x90000000C8 = some (.scaleGyro 200) := by decide
/-- op 1010, data 0 (L1.5). -/
theorem test_decode_scaleTemp : decodeTableWord 40 0xA000000000 = some (.scaleTemp 0) := by decide
/-- op 1011, data 1000 (L1.5). -/
theorem test_decode_scaleDang : decodeTableWord 40 0xB0000003E8 = some (.scaleDang 1000) := by decide
/-- op 1100, data 100 (L1.5). -/
theorem test_decode_scaleDvel : decodeTableWord 40 0xC000000064 = some (.scaleDvel 100) := by decide
/-- 1000_0000 and the page (R66). -/
theorem test_decode_psel : decodeTableWord 16 0x8003 = some (.psel 0x03) := by decide
/-- W = 0, offset 0x12, filler 0 (R66). -/
theorem test_decode_raddr : decodeTableWord 16 0x1200 = some (.raddr 0x12) := by decide
/-- All zeros (R66). -/
theorem test_decode_rdata : decodeTableWord 16 0x0000 = some .rdata := by decide
/-- W = 1, offset 0x10 even, low byte 0x34 (L1.3). -/
theorem test_decode_wlo : decodeTableWord 16 0x9034 = some (.wlo 0x10 0x34) := by decide
/-- W = 1, offset 0x11 odd, high byte 0x12 (L1.3). -/
theorem test_decode_whi : decodeTableWord 16 0x9112 = some (.whi 0x10 0x12) := by decide
/-- W = 0, offset 0x0C, filler 0, at a burst request (R66). -/
theorem test_decode_breq : decode (.frame .breq 0x0C00) = .ok (.breq 0x0C) := by decide
/-- W = 0, the dummy offset 0x00, filler 0, at the last capture (R66). -/
theorem test_decode_bend : decode (.frame .bend 0x0000) = .ok (.bend 0x00) := by decide

/-- The code a request word is refused with. -/
def refusalOf (w : ReqWord) : Option RefuseCode :=
  match decodeRequest w with
  | .error (.refused c) => some c
  | _ => none

/-- L2.1 #2 to #17. -/
theorem test_refusals :
    [0x4000000000, 0x7000000000, 0xD000000000, 0xFFFFFFFFFF, 0x0103120000, 0x5103130001].map refusalOf =
      List.replicate 6 (some .reservedOp) ∧
    [0x0003120001, 0x2000010000, 0x2000008000, 0x300100000A, 0x8000010002, 0x0003130001].map refusalOf =
      List.replicate 6 (some .nonzeroField) ∧
    [0x0003110000, 0x1000FF1234].map refusalOf = List.replicate 2 (some .misaligned) ∧
    [0x0003900000, 0x1000800000].map refusalOf = List.replicate 2 (some .offsetBit7) ∧
    [0x0003120000, 0x1000000000, 0x3000000000].map refusalOf = List.replicate 3 none := by decide

/-! ### The requests, one step each -/

/-- L2.2 #2: page miss. -/
theorem test_readReg_miss :
    seen (step ((demo 0x00 [0, 0, 0x11, 0x22, 0xAB, 0xCD]).withFetchWord 40 0x0003120000)) = some
      ⟨frameTrace 0x80 0x03 0 0 5 ++ frameTrace 0x12 0x00 0x11 0x22 5 ++ frameTrace 0x00 0x00 0xAB 0xCD 5,
        0x03, 0x03, [⟨.ok, none, .word 0xABCD⟩], .idle⟩ := by decide +kernel

/-- L2.2 #3: page hit. -/
theorem test_readReg_hit :
    seen (exec (.readReg 0x03 0x12) (demo 0x03 [0x11, 0x22, 0xAB, 0xCD])) = some
      ⟨frameTrace 0x12 0x00 0x11 0x22 5 ++ frameTrace 0x00 0x00 0xAB 0xCD 5,
        0x03, 0x03, [⟨.ok, none, .word 0xABCD⟩], .idle⟩ := by decide +kernel

/-- L2.3 #2: page miss, low byte first. -/
theorem test_writeReg_miss :
    seen (step ((demo 0x00 [1, 2, 3, 4, 5, 6]).withFetchWord 40 0x1003101234)) = some
      ⟨frameTrace 0x80 0x03 1 2 5 ++ frameTrace 0x90 0x34 3 4 5 ++ frameTrace 0x91 0x12 5 6 5,
        0x03, 0x03, [⟨.ok, none, .none⟩], .idle⟩ := by decide +kernel

/-- L2.3 #3: the largest admitted offset, no wrap. -/
theorem test_writeReg_top :
    seen (exec (.writeReg 0x00 0x7E 0xFFFF) (demo 0x00 [0, 0, 0, 0])) = some
      ⟨frameTrace 0xFE 0xFF 0 0 5 ++ frameTrace 0xFF 0xFF 0 0 5, 0x00, 0x00, [⟨.ok, none, .none⟩], .idle⟩ := by
  decide +kernel

/-- The bytes of L2.4 #1. -/
def burstRx : List Byte :=
  [0, 0, 0, 0, 0, 4, 0, 0xC8, 0xFF, 0x38, 0, 0, 0, 2, 0xFF, 0xFE, 0x07, 0xD0, 0x80, 0]

/-- The frames of L2.4 #1. -/
def burstBus : List BusEvent :=
  frameTrace 0x0A 0 0 0 10 ++ frameTrace 0x0C 0 0 0 10 ++ frameTrace 0x12 0 0 4 10 ++ frameTrace 0x16 0 0 0xC8 10 ++
    frameTrace 0x1A 0 0xFF 0x38 10 ++ frameTrace 0x1E 0 0 0 10 ++ frameTrace 0x22 0 0 2 10 ++
    frameTrace 0x26 0 0xFF 0xFE 10 ++ frameTrace 0x0E 0 0x07 0xD0 10 ++ frameTrace 0 0 0x80 0 10

/-- The words of L2.4 #1: 0, 4, 200, -200, 0, 2, -2, 2000, -32768. -/
def burstWords : BurstFields Word := ⟨0, 4, 0xC8, 0xFF38, 0, 2, 0xFFFE, 0x07D0, 0x8000⟩

/-- L2.4 #1: from page 0. -/
theorem test_readBurst_hit :
    seen (step ((demo 0x00 burstRx).withFetchWord 40 0x2000000000)) = some
      ⟨burstBus, 0x00, 0x00, [⟨.ok, none, .sample burstWords⟩], .idle⟩ := by decide +kernel

/-- L2.4 #2: from page 7. -/
theorem test_readBurst_miss :
    seen (exec .readBurst (demo 0x07 (9 :: 9 :: burstRx))) = some
      ⟨frameTrace 0x80 0x00 9 9 5 ++ burstBus, 0x00, 0x00, [⟨.ok, none, .sample burstWords⟩], .idle⟩ := by
  decide +kernel

/-- L2.5 #1: a stale page cache. -/
theorem test_resetDev_stale :
    seen (step ((demo 0x03 []).withFetchWord 40 0x300000000A)) = some
      ⟨[.rst true, .waitMs 10, .rst false], 0x03, 0x00, [⟨.ok, none, .none⟩], .idle⟩ := by decide +kernel

/-- L2.5 #2: `RESET_RESYNCS_PAGE = true`. -/
theorem test_resetDev_resyncs :
    seen (exec (.resetDev 10) { demo 0x03 [] with cfg := { cfgT with resetResyncsPage := true } }) = some
      ⟨[.rst true, .waitMs 10, .rst false], 0x00, 0x00, [⟨.ok, none, .none⟩], .idle⟩ := by decide +kernel

/-- L2.6. -/
theorem test_scaleAccl :
    payloadOf (exec (.scaleAccl 0xFFFF) (demo 0 [])) = some (.float32 0xBF000000) ∧
    payloadOf (exec (.scaleAccl 0x8000) (demo 0 [])) = some (.float32 0xC6800000) := by decide +kernel

/-- L2.6. -/
theorem test_scaleGyro :
    payloadOf (exec (.scaleGyro 1) (demo 0 [])) = some (.float32 0x3BA3D70A) ∧
    payloadOf (exec (.scaleGyro 0x7FFF) (demo 0 [])) = some (.float32 0x4323D5C2) := by decide +kernel

/-- L2.6: -1, and -32768. -/
theorem test_scaleTemp :
    payloadOf (exec (.scaleTemp 0xFFFF) (demo 0 [])) = some (.float32 0x41C7E2BC) ∧
    payloadOf (exec (.scaleTemp 0x8000) (demo 0 [])) = some (.float32 0xC3DDA09B) := by decide +kernel

/-- L2.6. -/
theorem test_scaleDang :
    payloadOf (exec (.scaleDang 1) (demo 0 [])) = some (.float32 0x3CB43958) ∧
    payloadOf (exec (.scaleDang 0x7FFF) (demo 0 [])) = some (.float32 0x443437F0) := by decide +kernel

/-- L2.6. -/
theorem test_scaleDvel :
    payloadOf (exec (.scaleDvel 1) (demo 0 [])) = some (.float32 0x40C353F8) ∧
    payloadOf (exec (.scaleDvel 0x8000) (demo 0 [])) = some (.float32 0xC84353F8) := by decide +kernel

/-- L2.7 #1: the second exchange of the page select fails; `cur_page` is not written. -/
theorem test_readReg_error :
    seen (exec (.readReg 0x03 0x12) (reporting [.byte 1, .err, .byte 2])) =
      some ⟨[.cs true, .xfer 0x80 1, .xferErr 0x03, .cs false], 0x00, Config.pageDraw 0,
        [⟨.fltTransport, some true, .none⟩], .idle⟩ := by rfl

/-- R26, R74: with error reporting, a response without a fault so far carries `xfault = 0`; after one, it carries 1. -/
theorem test_response_carries_xfault :
    (seen (step ((reporting [.byte 1]).withFetchWord 40 0x8000000002))).map (·.responses) =
      some [⟨.ok, some false, .float32 0x3F800000⟩] ∧
    (seen (step ({ reporting [] with xfault := true }.withFetchWord 40 0x0003110000))).map (·.responses) =
      some [⟨.refused .misaligned, some true, .none⟩] := by decide +kernel

/-- R130: 18/5 at 3 bits is 7/2 and not 4; at 2 bits the ties 5 and -7, in units of 2, go to the even 4 and -8. -/
theorem test_roundRat :
    roundRat 3 18 5 = ⟨7, -1⟩ ∧ roundRat 2 5 1 = ⟨2, 1⟩ ∧ roundRat 2 (-7) 1 = ⟨-4, 1⟩ := by decide +kernel

/-- R10, R154: a wait that never ends has been emitted. -/
theorem test_pending_wait_is_emitted :
    seen (exec (.resetDev 10) { demo 0x03 [] with timer := [.pending] }) =
      some ⟨[.rst true, .waitMs 10], 0x03, 0x03, [], .rst⟩ := by decide +kernel

/-- R33: `RECOVERED` between the two bytes of the data frame of L2.2 #3; the first is a draw, the second is not. -/
theorem test_recovered_inside_a_frame :
    payloadOf (exec (.readReg 0x03 0x12)
      { demo 0x03 [0x11, 0x22, 0xAB, 0xCD] with
        devRecovering := true, host := List.replicate 10 .quiet ++ [.recovered] }) =
      some (.word (assembleWord (Config.rxDraw 2) 0xCD)) := by rfl

/-- R165: an access frame started before the page select's stall has ended leaves `dev_page` a draw. -/
theorem test_broken_page_select :
    seen (exec (.raddr 0x12) { demo 0x03 [1, 2] with fsm := .pselWait, waiting := true }) =
      some ⟨frameTrace 0x12 0x00 1 2 5, 0x03, Config.pageDraw 0, [], .rdata⟩ := by rfl

/-- R141. -/
theorem test_statusCode_misaligned : statusCode (.refused .misaligned) = 0x3 := by decide

/-! ### The bus frames, one step each: the bytes of R66, the next position of R21 -/

theorem test_psel :
    seen (step ((demo 0x00 [1, 2]).withFetchWord 16 0x8005)) =
      some ⟨frameTrace 0x80 0x05 1 2 5, 0x05, 0x05, [], .raddr⟩ := by decide +kernel

theorem test_raddr :
    seen (step ((demo 0x00 [1, 2]).withFetchWord 16 0x1200)) =
      some ⟨frameTrace 0x12 0x00 1 2 5, 0x00, 0x00, [], .rdata⟩ := by decide +kernel

theorem test_rdata :
    seen (step ((demo 0x00 [0x40, 0x56]).withFetchWord 16 0x0000)) =
      some ⟨frameTrace 0x00 0x00 0x40 0x56 5, 0x00, 0x00, [], .resp⟩ := by decide +kernel

/-- Low byte to the page-select register moves the device's page (R28(a), L2.3 #7). -/
theorem test_wlo_pageSelect :
    seen (step ((demo 0x00 [1, 2]).withFetchWord 16 0x8005)) =
      seen (exec (.psel 0x05) (demo 0x00 [1, 2])) ∧
    seen (exec (.wlo 0x00 0x05) (demo 0x00 [1, 2])) =
      some ⟨frameTrace 0x80 0x05 1 2 5, 0x00, 0x05, [], .whi⟩ := by decide +kernel

theorem test_wlo :
    seen (step ((demo 0x03 [1, 2]).withFetchWord 16 0x9034)) =
      some ⟨frameTrace 0x90 0x34 1 2 5, 0x03, 0x03, [], .whi⟩ := by decide +kernel

theorem test_whi :
    seen (step ((demo 0x03 [1, 2]).withFetchWord 16 0x9112)) =
      some ⟨frameTrace 0x91 0x12 1 2 5, 0x03, 0x03, [], .resp⟩ := by decide +kernel

theorem test_breq :
    seen (exec (.breq 0x0A) (demo 0x00 [1, 2])) =
      some ⟨frameTrace 0x0A 0x00 1 2 10, 0x00, 0x00, [], .bcap⟩ := by decide +kernel

theorem test_bend :
    seen (exec (.bend 0x00) (demo 0x00 [0x80, 0x01])) =
      some ⟨frameTrace 0x00 0x00 0x80 0x01 10, 0x00, 0x00, [], .resp⟩ := by decide +kernel

/-! ### Witnesses: a state and operands that meet the hypotheses of each statement -/

/-- States on which a request completes: a page hit and a page miss for page 3, listed bytes and none, inside the recovery
window, and with error reporting. -/
def idleStates : List State :=
  [demo 0x03 [1, 2, 3, 4], demo 0x00 [], { demo 0x00 [5] with devRecovering := true }, reporting [.byte 1, .byte 2]]

/-- Page hit and miss, both ends of the admitted offsets, both values of `devRecovering`. -/
theorem witness_ReadRegReturnsTheDataWord :
    (∀ s ∈ idleStates, s.fsm = .idle ∧ s.Responsive ∧ s.NoReportedError) ∧
    admittedOff 0x00 = true ∧ admittedOff 0x7E = true ∧
    (demo 0x03 []).devRecovering = false ∧ (0x03 : Byte) = (demo 0x03 []).curPage ∧
    (0x03 : Byte) ≠ (demo 0x00 []).curPage := by decide

/-- As for READ_REG, with the page-select register and the register after it. -/
theorem witness_WriteRegSendsLowThenHighByte :
    (∀ s ∈ idleStates, s.fsm = .idle ∧ s.Responsive ∧ s.NoReportedError) ∧
    admittedOff 0x00 = true ∧ admittedOff 0x02 = true ∧ (demo 0x03 []).devRecovering = false := by decide

/-- Page 0 current, and not. -/
theorem witness_ReadBurstReturnsNineWords :
    (∀ s ∈ idleStates, s.fsm = .idle ∧ s.Responsive ∧ s.NoReportedError) ∧
    (0x00 : Byte) = (demo 0x00 []).curPage ∧ (0x00 : Byte) ≠ (demo 0x03 []).curPage ∧
    (demo 0x03 []).devRecovering = false := by decide

theorem witness_ScalingAnswersOneFloat : ∀ s ∈ idleStates, s.fsm = .idle := by decide

theorem witness_RepeatedReadHitsThePage :
    (∀ s ∈ idleStates, s.fsm = .idle ∧ s.Responsive ∧ s.NoReportedError) ∧ admittedOff 0x12 = true := by decide

theorem witness_ScalingErrorIsBounded : dvelConst = acclConst ∨ dvelConst = gyroConst ∨ dvelConst = tempConst ∨
    dvelConst = dangConst ∨ dvelConst = dvelConst := by decide

theorem witness_PayloadBitsEncodeTheValue : tempConst = acclConst ∨ tempConst = gyroConst ∨ tempConst = tempConst ∨
    tempConst = dangConst ∨ tempConst = dvelConst := by decide

theorem witness_DecodeUndoesEncode :
    (Instr.readReg 0xFF 0x7E).wellFormed = true ∧ (Instr.writeReg 0x00 0x00 0x8000).wellFormed = true ∧
    (Instr.whi 0x7E 0xFF).wellFormed = true ∧ (Instr.bend 0x00).wellFormed = true := by decide

theorem witness_EncodeUndoesDecode :
    decode (.request 0x1003101234) = .ok (.writeReg 0x03 0x10 0x1234) ∧
    decode (.frame .whi 0xFF12) = .ok (.whi 0x7E 0x12) ∧ decode (.frame .wlo 0x8034) = .ok (.wlo 0x00 0x34) := by
  decide

/-- One word under each clause, next to the clause's neighbours: op 3 and 4, 7 and 8, C and D; then words that fail
a later check too. -/
theorem witness_RefusalsFollowThePriority :
    [0x3000000000, 0x4000000000, 0x7000000000, 0x8000000000, 0xC000000000, 0xD000000000, 0x0100000000].map refusalOf =
      [none, some .reservedOp, some .reservedOp, none, none, some .reservedOp, some .reservedOp] ∧
    [0x0000FF0001, 0x0000FF0000, 0x0000FE0000, 0x00007E0000, 0x1000FFFFFF, 0x2000010000, 0xC000010000].map refusalOf =
      [some .nonzeroField, some .misaligned, some .offsetBit7, none, some .misaligned, some .nonzeroField,
        some .nonzeroField] := by decide

theorem witness_RequestWordsMatchTheirRow :
    (0x00FF7E0000 : ReqWord) &&& 0xFF0081FFFF = 0x0000000000 ∧ (0x10FF7EFFFF : ReqWord) &&& 0xFF00810000 = 0x1000000000 ∧
    (0x300000FFFF : ReqWord) &&& 0xFFFFFF0000 = 0x3000000000 ∧ (0xC00000FFFF : ReqWord) &&& 0xFFFFFF0000 = 0xC000000000 ∧
    (0x0000800000 : ReqWord) &&& 0xFF0081FFFF ≠ 0x0000000000 := by decide

theorem witness_WriteAddressBytesNeverWrap :
    admittedOff 0x00 = true ∧ admittedOff 0x7E = true ∧ (whiB0 0x7E).toNat = 0xFF := by decide

/-- CFG_T is good; L2.4 #5's offsets, and a bad dummy, are not. -/
theorem witness_IllFormedConfigurationIsRefused :
    (admittedOff rawT.diag = true ∧ admittedOff rawT.alarm = true ∧ admittedOff rawT.gyroX = true ∧
      admittedOff rawT.gyroY = true ∧ admittedOff rawT.gyroZ = true ∧ admittedOff rawT.acclX = true ∧
      admittedOff rawT.acclY = true ∧ admittedOff rawT.acclZ = true ∧ admittedOff rawT.temp = true ∧
      admittedOff 0x7E = true) ∧
    admittedOff ({ rawT with gyroY := 0x96 } : BurstFields Byte).gyroY = false ∧
    admittedOff ({ rawT with gyroY := 0x17 } : BurstFields Byte).gyroY = false ∧ admittedOff 0x80 = false := by decide

theorem witness_StatusCodesRoundTrip :
    ∀ c ∈ [(5 : BitVec 4), 7, 9, 15], (5 ≤ c.toNat ∧ c.toNat ≤ 7) ∨ 9 ≤ c.toNat := by decide

/-- A request at the port of an idle block; a frame at its start. -/
theorem witness_StepRunsTheDecodedInstruction :
    (offerFirst 0x0003120000 (demo 0x00 [])).fsm = .idle ∧
    fetch (offerFirst 0x0003120000 (demo 0x00 [])) = some (.request 0x0003120000) ∧
    decode (.request 0x0003120000) = .ok (.readReg 0x03 0x12) ∧
    (let s := at_ .whi .csOn 0x1
     inFrame s.fsm = true ∧ s.fpos = .csOn ∧ s.aborting = false ∧ frameKindAt s = some .whi ∧
     fetch s = some (.frame .whi 0x9312) ∧ decode (.frame .whi 0x9312) = .ok (.whi 0x12 0x12)) := by decide

theorem witness_PlacedTableWordRunsNext :
    decodeTableWord 40 0xB0000003E8 = some (.scaleDang 1000) ∧ decodeTableWord 16 0x9112 = some (.whi 0x10 0x12) ∧
    (at_ .psel .b1 0x0).fsm = .psel ∧ (at_ .pselWait .csOn 0x0).fsm = .pselWait ∧
    ((demo 0x03 []).fsm ≠ .psel ∧ (demo 0x03 []).fsm ≠ .pselWait) := by decide

/-- A step with a next state: a request that is answered. -/
theorem witness_EveryStepIsASequenceOfTicks :
    step (offerFirst 0x8000000002 (demo 0x00 [])) =
      .next (respond .ok (.float32 0x3F800000) { demo 0x00 [] with reqOp := 0x8, reqPage := 0, reqOff := 0, reqData := 2 }) := by rfl

theorem witness_ResponsesAndBusOnlyGrow :
    step (offerFirst 0x0003110000 (demo 0x03 [])) = .next (refuse .misaligned (demo 0x03 [])) := by rfl

/-- `xfault` set before a step; a step that sets it, and one with reporting on that responds and does not; and an
invariant state without reporting. -/
theorem witness_XfaultIsSticky :
    ({ reporting [] with xfault := true } : State).xfault = true ∧
    step { reporting [] with xfault := true } = .next { reporting [] with xfault := true } ∧
    (let s : State := { reporting [] with fsm := .raddr, fpos := .csOff, csLine := true, aborting := true }
     s.xfault = false ∧ step s = .next (transportFault s) ∧ (transportFault s).xfault = true) ∧
    (let s : State := { reporting [] with fsm := .resp, reqOp := 0x1 }
     s.cfg.xportErrReporting = true ∧ step s = .next (respond .ok .none s)) ∧
    (demo 0x03 []).cfg.xportErrReporting = false ∧ (demo 0x03 []).Inv := by
  refine ⟨rfl, rfl, ⟨rfl, rfl, rfl⟩, ⟨rfl, rfl⟩, rfl, ?_⟩
  constructor <;> decide

/-- The invariant holds in the middle of a frame of each operation, and with a request under check, not only at rest. -/
theorem witness_EveryStepKeepsTheSequencerInvariant :
    ({ at_ .raddr .b1 0x0 with csLine := true } : State).Inv ∧
    ({ at_ .bcap .b0 0x2 with csLine := true, reqPage := 0x00, curPage := 0x00, bk := 9 } : State).Inv ∧
    ({ at_ .rst .csOn 0x3 with rpos := .wait, rstLine := true, waiting := true } : State).Inv ∧
    ({ at_ .wloWait .csOn 0x1 with waiting := true } : State).Inv ∧
    ({ offerFirst 0x0003110000 (demo 0x03 []) with fsm := .check } : State).Inv := by
  refine ⟨?_, ?_, ?_, ?_, ?_⟩ <;> constructor <;> decide

/-- Two steps of an operation in flight: `S_RESP`, and a page-select frame. -/
theorem witness_BusyBlockTakesNoRequest :
    (Instr.resetDev 0).isRequest = true ∧ (at_ .resp .csOn 0x1).fsm ≠ .idle ∧ (at_ .resp .csOn 0x1).fsm ≠ .check ∧
    step (at_ .resp .csOn 0x1) = .next (respond .ok .none (at_ .resp .csOn 0x1)) := by
  exact ⟨rfl, by decide, by decide, rfl⟩

theorem witness_IdleBlockWaits : (demo 0x03 []).fsm = .idle ∧ (demo 0x03 []).offered = [] := by decide

/-- At an exchange, in a wait and in a pulse. -/
theorem witness_UnansweredBlockIsStuck :
    (let s : State := { at_ .raddr .b0 0x0 with xport := [.silent] }
     inFrame s.fsm = true ∧ s.fpos = .b0 ∧ s.xport = .silent :: []) ∧
    (let s : State := { at_ .bcapWait .csOn 0x2 with waiting := true, timer := [.pending, .elapsed] }
     inWait s.fsm = true ∧ s.waiting = true ∧ s.timer = .pending :: [.elapsed]) ∧
    (let s : State := { at_ .rst .csOn 0x3 with rpos := .wait, waiting := true, timer := [.pending] }
     s.fsm = .rst ∧ s.rpos = .wait ∧ s.waiting = true ∧ s.timer = .pending :: []) := by decide

/-- In the middle of a frame, with the window open. -/
theorem witness_RecoveredEndsTheWindow :
    (let s : State := { at_ .raddr .b1 0x0 with devRecovering := true, host := [.recovered, .quiet] }
     s.host = .recovered :: [.quiet] ∧ s.devRecovering = true ∧ (tick s).devRecovering = false) := by decide

theorem witness_CurPageIsWrittenAtTheDeassert :
    ((at_ .psel .csOff 0x0).fsm = .psel ∧ (at_ .psel .csOff 0x0).fpos = .csOff ∧
      (at_ .psel .csOff 0x0).aborting = false) ∧
    ((at_ .psel .b1 0x0).fsm = .psel ∧ (at_ .psel .b1 0x0).fpos ≠ .csOff) ∧
    (let s : State := { at_ .rst .csOn 0x3 with rpos := .lineOff }
     s.fsm = .rst ∧ s.rpos = .lineOff) ∧
    ((at_ .wlo .csOff 0x1).fsm ≠ .psel ∧ ¬((at_ .wlo .csOff 0x1).fsm = .rst ∧ (at_ .wlo .csOff 0x1).rpos = .lineOff)) := by
  decide

/-- `b0` is 0x80, 0x81, and another; then an aborted frame, a recovering device, and no frame end. -/
theorem witness_DevicePageFollowsTheFrames :
    (∀ s ∈ [at_ .psel .csOff 0x0, { at_ .whi .csOff 0x1 with reqOff := 0x00 }, at_ .raddr .csOff 0x0],
      inFrame s.fsm = true ∧ s.fpos = .csOff ∧ s.aborting = false ∧ s.devRecovering = false) ∧
    (frameBytes (at_ .psel .csOff 0x0)).1 = 0x80 ∧
    (frameBytes { at_ .whi .csOff 0x1 with reqOff := 0x00 }).1 = 0x81 ∧
    (frameBytes (at_ .raddr .csOff 0x0)).1 = 0x12 ∧
    (let s : State := { at_ .raddr .csOff 0x0 with aborting := true }
     inFrame s.fsm = true ∧ s.fpos = .csOff ∧ s.aborting = true) ∧
    (let s : State := { at_ .raddr .csOff 0x0 with devRecovering := true }
     inFrame s.fsm = true ∧ s.fpos = .csOff ∧ s.devRecovering = true ∧ s.host.head? ≠ some .recovered) ∧
    (let s : State := { at_ .raddr .csOff 0x0 with devRecovering := true, host := [.recovered] }
     inFrame s.fsm = true ∧ s.fpos = .csOff ∧ s.aborting = false ∧ s.host.head? = some .recovered) ∧
    (¬(inFrame (at_ .raddr .b0 0x0).fsm = true ∧ (at_ .raddr .b0 0x0).fpos = .csOff) ∧
      ¬((at_ .raddr .b0 0x0).fsm = .rst ∧ (at_ .raddr .b0 0x0).rpos = .lineOff)) := by decide

theorem witness_EveryFrameIsFollowedByItsStall :
    (∀ s ∈ [at_ .psel .csOff 0x0, at_ .bcap .csOff 0x2],
      inFrame s.fsm = true ∧ s.fpos = .csOff ∧ s.aborting = false) ∧
    (∀ x ∈ [Fsm.psel, .bprime], inFrame x = true ∧ (at_ (stallOf x) .csOn 0x2).fsm = stallOf x ∧
      (at_ (stallOf x) .csOn 0x2).waiting = false) ∧
    (let s : State := { at_ .whiWait .csOn 0x1 with waiting := true, timer := [.pending] }
     inFrame .whi = true ∧ s.fsm = stallOf .whi ∧ s.waiting = true ∧ s.timer = .pending :: []) ∧
    (let s : State := { at_ .whiWait .csOn 0x1 with waiting := true, timer := [.elapsed] }
     s.fsm = stallOf .whi ∧ s.waiting = true ∧ s.timer.head? ≠ some .pending) := by decide

theorem witness_RefusedRequestChangesNothing :
    (∀ s ∈ [offerFirst 0x0003110000 (demo 0x03 []), { offerFirst 0x0003110000 (demo 0x03 []) with fsm := .check }],
      (s.fsm = .idle ∨ s.fsm = .check) ∧ s.offered = 0x0003110000 :: []) ∧
    decodeRequest 0x0003110000 = .error (.refused .misaligned) := by decide

theorem witness_UnadmittedOffsetIsRefused :
    (demo 0x03 []).fsm = .idle ∧ (0xFF : Byte).getLsbD 0 = true ∧
    ((0x80 : Byte).getLsbD 0 = false ∧ (0x80 : Byte).getLsbD 7 = true) := by decide

theorem witness_ResetDevPulsesTheLine :
    (demo 0x03 []).fsm = .idle ∧
    (let s : State := { demo 0x03 [] with timer := [.elapsed], host := [.recovered] }
     s.fsm = .idle ∧ ∀ a ∈ s.timer, a ≠ TimerAnswer.pending) ∧
    (demo 0x03 []).cfg.tRstMinUs ≤ (10 : Word).toNat * 1000 ∧
    ¬(demo 0x03 []).cfg.tRstMinUs ≤ (9 : Word).toNat * 1000 := by decide

/-- A page select at its position, and one to be placed in the middle of another frame. -/
theorem witness_PageSelectFrameSelects :
    (∀ s ∈ [at_ .psel .csOn 0x0, at_ .wlo .b1 0x1], s.Responsive ∧ s.NoReportedError ∧ s.devRecovering = false) ∧
    atFrame .psel (at_ .psel .csOn 0x0) = true ∧ atFrame .psel (at_ .wlo .b1 0x1) = false := by decide

/-- Each frame at its position, and to be placed. -/
theorem witness_ReadFramesAddressThenData :
    (∀ s ∈ [at_ .raddr .csOn 0x0, at_ .rdata .csOn 0x0, demo 0x03 [1],
        at_ .psel .b1 0x0, at_ .pselWait .csOn 0x0],
      s.Responsive ∧ s.NoReportedError ∧ s.devRecovering = false) ∧
    admittedOff 0x7E = true ∧ atFrame .raddr (at_ .raddr .csOn 0x0) = true ∧
    atFrame .rdata (at_ .rdata .csOn 0x0) = true ∧ atFrame .rdata (demo 0x03 [1]) = false := by decide

/-- Each frame at its position, and to be placed; the page-select register and the register after it. -/
theorem witness_WriteFramesSendTheirByte :
    (∀ s ∈ [at_ .wlo .csOn 0x1, at_ .whi .csOn 0x1, at_ .wlo .b1 0x1,
        at_ .psel .b1 0x0, at_ .pselWait .csOn 0x0],
      s.Responsive ∧ s.NoReportedError ∧ s.devRecovering = false) ∧
    admittedOff 0x00 = true ∧ admittedOff 0x02 = true ∧ atFrame .wlo (at_ .wlo .csOn 0x1) = true ∧
    atFrame .whi (at_ .whi .csOn 0x1) = true ∧ atFrame .wlo (at_ .wlo .b1 0x1) = false := by decide

/-- Captures 1 and 8, and the priming frame at its place and placed from an idle block, a frame in flight and `bk = 9`. -/
theorem witness_BurstRequestFrameCaptures :
    (∀ b ∈ [(1 : BitVec 4), 8],
      let s : State := { at_ .bcap .csOn 0x2 with bk := b }
      s.Responsive ∧ s.NoReportedError ∧
      s.fsm = .bcap ∧ s.fpos = .csOn ∧ s.aborting = false ∧ 1 ≤ s.bk.toNat ∧ s.bk.toNat ≤ 8) ∧
    (∀ s ∈ [at_ .bprime .csOn 0x2, demo 0x03 [], at_ .pselWait .csOn 0x2, at_ .bcap .b0 0x2, { at_ .bcap .csOn 0x2 with bk := 9 }],
      s.Responsive ∧ s.NoReportedError ∧
      (s.fsm ≠ .bcap ∨ s.fpos ≠ .csOn ∨ s.aborting = true ∨ 8 < s.bk.toNat)) := by decide

theorem witness_BurstEndFrameCapturesTheLastField :
    ∀ s ∈ [({ at_ .bcap .csOn 0x2 with bk := 9 } : State), { at_ .bcap .csOn 0x2 with bk := 8 },
        at_ .pselWait .csOn 0x2, demo 0x03 []],
      s.Responsive ∧ s.NoReportedError ∧ (s.fsm ≠ .bcap ∨ s.bk.toNat ≤ 9) := by decide

theorem witness_AnsweredRequestEnds :
    (reporting [.err]).fsm = .idle ∧ (Instr.readReg 0x03 0x7E).isRequest = true ∧
    (Instr.readReg 0x03 0x7E).wellFormed = true ∧ (reporting [.err]).Responsive := by decide

/-- The first exchange of a page select, the last of an access, the last of a burst. -/
theorem witness_ReportedErrorAbortsTheOperation :
    (∀ good ∈ [([] : List Byte), [1, 2, 3, 4, 5]],
      let s := reporting (good.map XferAnswer.byte ++ XferAnswer.err :: [.byte 7])
      s.fsm = .idle ∧ s.cfg.xportErrReporting = true ∧ (∀ a ∈ s.timer, a ≠ TimerAnswer.pending) ∧
      admittedOff 0x7E = true ∧ s.xport = good.map XferAnswer.byte ++ XferAnswer.err :: [.byte 7] ∧
      good.length < 2 * (selectPlan s 0x03 ++ readPlan s 0x7E).length ∧
      good.length < 2 * (selectPlan s 0x03 ++ writePlan s 0x7E 1).length) ∧
    (let good : List Byte := List.replicate 19 0
     let s := reporting (good.map XferAnswer.byte ++ XferAnswer.err :: [])
     s.fsm = .idle ∧ s.cfg.xportErrReporting = true ∧ (∀ a ∈ s.timer, a ≠ TimerAnswer.pending) ∧
     s.xport = good.map XferAnswer.byte ++ XferAnswer.err :: [] ∧
     good.length < 2 * (selectPlan s 0x00 ++ burstPlan s).length) := by decide

/-- A completed write, and a read left hanging. -/
theorem witness_AccessesKeepThePageCacheConsistent :
    (demo 0x03 []).fsm = .idle ∧ (demo 0x03 []).PageConsistent ∧ (demo 0x03 []).cfg.xportErrReporting = false ∧
    (∃ t, exec (.writeReg 0x05 0x7E 1) (demo 0x03 []) = .next t) ∧
    (∃ t, exec (.readReg 0x05 0x00) { demo 0x03 [] with xport := [.silent] } = .next t) :=
  ⟨rfl, by decide, rfl, ⟨_, rfl⟩, ⟨_, rfl⟩⟩

/-- The cache and the device on different pages. -/
theorem witness_PageMissResynchronizes :
    (let s : State := { demo 0x03 [] with devPage := 0x07 }
     s.fsm = .idle ∧ s.Responsive ∧ s.NoReportedError ∧ s.devRecovering = false ∧ admittedOff 0x12 = true ∧
     (0x05 : Byte) ≠ s.curPage) := by decide

theorem witness_ResetLeavesAStalePage :
    (let s := demo 0x03 []
     s.fsm = .idle ∧ s.Responsive ∧ s.NoReportedError ∧ s.cfg.resetResyncsPage = false ∧
     s.cfg.tRstMinUs ≤ (10 : Word).toNat * 1000 ∧ s.curPage ≠ 0x00 ∧ admittedOff 0x12 = true) := by decide

theorem witness_RecoveryWindowGivesDraws :
    (let s : State := { demo 0x03 [1, 2] with devRecovering := true, host := [.quiet] }
     s.fsm = .idle ∧ s.Responsive ∧ s.NoReportedError ∧ admittedOff 0x12 = true ∧ s.devRecovering = true ∧
     ∀ a ∈ s.host, a ≠ HostTurn.recovered) := by decide

/-- A tie (5/2 at one bit of fraction fewer), an inexact negative, and one bit of precision. -/
theorem witness_RoundingIsToNearestEven :
    1 ≤ 1 ∧ 1 ≤ 24 ∧ 0 < 1000 ∧ (-5 : Int) ≠ 0 := by decide

end Sys2Proof.Tests
end

section
/-! SUPPORT. What one event of the block can do, said once: the admission and the wait states as updates, the position's
event as one of a list of kinds (`Acted`), and what every kind leaves unchanged. -/

namespace Sys2Proof.Machine

/-! ### The host's turn and the position -/

@[simp] theorem frameBytes_hostTurn (s : State) : frameBytes (hostTurn s) = frameBytes s := by
  rw [hostTurn_eq]; rfl

/-- The frame states are those whose event is a frame's (R21, R83). -/
theorem act_of_inFrame {s : State} (h : inFrame s.fsm = true) :
    act s = frameAct s.fsm (frameBytes s).1 (frameBytes s).2 s := by
  unfold act; cases hx : s.fsm <;> simp_all [inFrame]

/-- The wait states are those whose event is a wait's (R21, R164). -/
theorem act_of_inWait {s : State} (h : inWait s.fsm = true) : act s = stallAct s.fsm s := by
  unfold act; cases hx : s.fsm <;> simp_all [inWait]

theorem act_of_idle {s : State} (h : s.fsm = .idle) : act s = idleAct s := by simp [act, h]

theorem act_of_check {s : State} (h : s.fsm = .check) : act s = checkAct s := by simp [act, h]

theorem act_of_rst {s : State} (h : s.fsm = .rst) : act s = resetAct s := by simp [act, h]

theorem act_of_resp {s : State} (h : s.fsm = .resp) : act s = respAct s := by simp [act, h]

/-- Every position is idle, under check, in a frame, in a wait state, in the pulse or at the response (R21). -/
theorem fsm_kinds (x : Fsm) :
    x = .idle ∨ x = .check ∨ inFrame x = true ∨ inWait x = true ∨ x = .rst ∨ x = .resp := by
  cases x <;> simp [inFrame, inWait]

theorem inFrame_ne {x : Fsm} (h : inFrame x = true) : x ≠ .idle ∧ x ≠ .check ∧ x ≠ .rst ∧ x ≠ .resp := by
  cases x <;> simp_all [inFrame]

theorem inWait_ne {x : Fsm} (h : inWait x = true) : x ≠ .idle ∧ x ≠ .check ∧ x ≠ .rst ∧ x ≠ .resp := by
  cases x <;> simp_all [inWait]

theorem inWait_stallOf {x : Fsm} (h : inFrame x = true) : inWait (stallOf x) = true := by
  cases x <;> simp_all [inFrame, inWait, stallOf]

/-! ### Admission -/

/-- All that an admission writes: the request latches and the position (R23, R80). -/
theorem accept_eq (i : Instr) (s : State) :
    accept i s =
      { s with
        fsm := (accept i s).fsm, fpos := (accept i s).fpos, rpos := (accept i s).rpos
        waiting := (accept i s).waiting, aborting := (accept i s).aborting
        reqOp := (accept i s).reqOp, reqPage := (accept i s).reqPage, reqOff := (accept i s).reqOff
        reqData := (accept i s).reqData } := by
  cases i <;> simp only [accept, pageDecision, goto] <;> split <;> rfl

@[simp] theorem accept_cfg (i : Instr) (s : State) : (accept i s).cfg = s.cfg := by rw [accept_eq]
@[simp] theorem accept_curPage (i : Instr) (s : State) : (accept i s).curPage = s.curPage := by rw [accept_eq]
@[simp] theorem accept_xfault (i : Instr) (s : State) : (accept i s).xfault = s.xfault := by rw [accept_eq]
@[simp] theorem accept_csLine (i : Instr) (s : State) : (accept i s).csLine = s.csLine := by rw [accept_eq]
@[simp] theorem accept_rstLine (i : Instr) (s : State) : (accept i s).rstLine = s.rstLine := by rw [accept_eq]
@[simp] theorem accept_devPage (i : Instr) (s : State) : (accept i s).devPage = s.devPage := by rw [accept_eq]
@[simp] theorem accept_devRecovering (i : Instr) (s : State) : (accept i s).devRecovering = s.devRecovering := by
  rw [accept_eq]
@[simp] theorem accept_offered (i : Instr) (s : State) : (accept i s).offered = s.offered := by rw [accept_eq]
@[simp] theorem accept_responses (i : Instr) (s : State) : (accept i s).responses = s.responses := by rw [accept_eq]
@[simp] theorem accept_bus (i : Instr) (s : State) : (accept i s).bus = s.bus := by rw [accept_eq]
@[simp] theorem accept_host (i : Instr) (s : State) : (accept i s).host = s.host := by rw [accept_eq]

/-! ### After a stall -/

theorem nextCapture_cases (s : State) :
    (s.bk.toNat < 9 ∧ nextCapture s = goto .bcap { s with bk := s.bk + 1 }) ∨
    (¬s.bk.toNat < 9 ∧ nextCapture s = goto .resp s) := by
  unfold nextCapture
  split
  · exact .inl ⟨‹_›, rfl⟩
  · exact .inr ⟨‹_›, rfl⟩

/-- All that follows a stall: a capture and the next position (R21, R84, R102). -/
theorem afterStall_eq (x : Fsm) (s : State) :
    afterStall x s =
      { s with
        fsm := (afterStall x s).fsm, fpos := (afterStall x s).fpos, rpos := (afterStall x s).rpos
        waiting := (afterStall x s).waiting, aborting := (afterStall x s).aborting
        rdata := (afterStall x s).rdata, bbuf := (afterStall x s).bbuf, bk := (afterStall x s).bk } := by
  cases x
  case bcapWait =>
    obtain ⟨-, e⟩ | ⟨-, e⟩ := nextCapture_cases (captureBurst s) <;> rw [afterStall, e] <;> rfl
  all_goals rfl

section
variable (x : Fsm) (s : State)

@[simp] theorem afterStall_cfg : (afterStall x s).cfg = s.cfg := by rw [afterStall_eq]
@[simp] theorem afterStall_curPage : (afterStall x s).curPage = s.curPage := by rw [afterStall_eq]
@[simp] theorem afterStall_reqOp : (afterStall x s).reqOp = s.reqOp := by rw [afterStall_eq]
@[simp] theorem afterStall_reqPage : (afterStall x s).reqPage = s.reqPage := by rw [afterStall_eq]
@[simp] theorem afterStall_reqOff : (afterStall x s).reqOff = s.reqOff := by rw [afterStall_eq]
@[simp] theorem afterStall_reqData : (afterStall x s).reqData = s.reqData := by rw [afterStall_eq]
@[simp] theorem afterStall_xfault : (afterStall x s).xfault = s.xfault := by rw [afterStall_eq]
@[simp] theorem afterStall_csLine : (afterStall x s).csLine = s.csLine := by rw [afterStall_eq]
@[simp] theorem afterStall_rstLine : (afterStall x s).rstLine = s.rstLine := by rw [afterStall_eq]
@[simp] theorem afterStall_devPage : (afterStall x s).devPage = s.devPage := by rw [afterStall_eq]
@[simp] theorem afterStall_devRecovering : (afterStall x s).devRecovering = s.devRecovering := by rw [afterStall_eq]
@[simp] theorem afterStall_offered : (afterStall x s).offered = s.offered := by rw [afterStall_eq]
@[simp] theorem afterStall_responses : (afterStall x s).responses = s.responses := by rw [afterStall_eq]
@[simp] theorem afterStall_bus : (afterStall x s).bus = s.bus := by rw [afterStall_eq]
@[simp] theorem afterStall_host : (afterStall x s).host = s.host := by rw [afterStall_eq]

end

/-- The operation's first state is an access state, the pulse, the response or, for no admitted request, idle (R21). -/
theorem firstState_ne_check (op : BitVec 4) : firstState op ≠ .check := by
  revert op; decide

theorem afterStall_ne_check {x : Fsm} (s : State) (h : inWait x = true) : (afterStall x s).fsm ≠ .check := by
  cases x <;> simp_all [inWait, afterStall, firstState_ne_check]
  obtain ⟨-, e⟩ | ⟨-, e⟩ := nextCapture_cases (captureBurst s) <;> simp [e]

/-! ### The kinds of events -/

/-- What the block can do in one step of R30, after the host's turn, with what holds of the position there. -/
inductive Acted (s : State) : State → Prop where
  /-- An agent does not answer, or nothing is offered (R154). -/
  | stays : s.fsm ≠ .check → Acted s s
  /-- A request is taken for checking (R22). -/
  | takes : s.fsm = .idle → s.offered ≠ [] → Acted s (goto .check s)
  /-- A check with no request to it (log 21). -/
  | drops : s.fsm = .check → Acted s (goto .idle { s with offered := s.offered.tail })
  /-- A refusal (R142). -/
  | refuses (c : RefuseCode) : s.fsm = .check → Acted s (refuse c { s with offered := s.offered.tail })
  /-- An admission (R80). -/
  | admits (w : ReqWord) (i : Instr) : s.fsm = .check → decodeRequest w = .ok i →
      Acted s (accept i { s with offered := s.offered.tail })
  /-- `CS(assert)` (R83). -/
  | selects : inFrame s.fsm = true → s.fpos = .csOn → Acted s (csAssert s)
  /-- The first exchange returns a byte (R83). -/
  | receivesFirst (tx r r0 : Byte) : inFrame s.fsm = true → s.fpos = .b0 →
      Acted s (emit (.xfer tx r) (answered { s with fpos := .b1, rx0 := r0 }))
  /-- The second exchange returns a byte (R83). -/
  | receivesSecond (tx r r1 : Byte) : inFrame s.fsm = true → s.fpos = .b1 →
      Acted s (emit (.xfer tx r) (answered { s with fpos := .csOff, rx1 := r1 }))
  /-- An exchange fails, with reporting on (R143). -/
  | fails (tx : Byte) : inFrame s.fsm = true → s.fpos = .b0 ∨ s.fpos = .b1 → s.cfg.xportErrReporting = true →
      Acted s (emit (.xferErr tx) (answered { s with fpos := .csOff, aborting := true }))
  /-- The end of a failed frame (R143). -/
  | faults : inFrame s.fsm = true → s.fpos = .csOff → s.aborting = true → Acted s (transportFault s)
  /-- The end of a completed frame (R28, R83). -/
  | completes : inFrame s.fsm = true → s.fpos = .csOff → s.aborting = false →
      Acted s (csDeassert s.fsm (frameBytes s).1 (frameBytes s).2 s)
  /-- A wait is emitted (R10). -/
  | waits (e : BusEvent) : inWait s.fsm = true ∨ s.fsm = .rst ∧ s.rpos = .wait →
      Acted s (emit e { s with waiting := true })
  /-- A stall ends (R164). -/
  | resumes : inWait s.fsm = true → Acted s (afterStall s.fsm (waited s))
  /-- `RST(assert)` (R120). -/
  | pulses : s.fsm = .rst → s.rpos = .lineOn → Acted s (emit (.rst true) { s with rstLine := true, rpos := .wait })
  /-- The wait of the pulse ends (R120). -/
  | elapses : s.fsm = .rst → s.rpos = .wait → Acted s { waited s with rpos := .lineOff }
  /-- `RST(deassert)` (R120 to R123). -/
  | releases : s.fsm = .rst → s.rpos = .lineOff → Acted s (rstDeassert s)
  /-- The response (R74). -/
  | responds : s.fsm = .resp → Acted s (respAct s)

theorem checkAct_acted {s : State} (h : s.fsm = .check) : Acted s (checkAct s) := by
  unfold checkAct
  split
  case h_1 ho =>
    have e : goto .idle s = goto .idle { s with offered := s.offered.tail } := by simp [goto, ho]
    rw [e]; exact .drops h
  case h_2 w r ho =>
    have e : r = s.offered.tail := by simp [ho]
    subst e
    cases hd : decodeRequest w with
    | ok i => exact .admits w i h hd
    | error d =>
      cases d with
      | refused c => exact .refuses c h
      | notAFrame => exact .drops h

theorem frameAct_acted {s : State} (h : inFrame s.fsm = true) :
    Acted s (frameAct s.fsm (frameBytes s).1 (frameBytes s).2 s) := by
  obtain ⟨-, -, e⟩ | ⟨hp, e⟩ | ⟨hp, ha, e⟩ | ⟨hp, r, -, e⟩ | ⟨hp, ha, e⟩ | ⟨hp, r, -, e⟩ | ⟨hp, ha, e⟩ | ⟨hp, ha, e⟩ :=
    frameAct_cases s.fsm (frameBytes s).1 (frameBytes s).2 s <;> rw [e]
  · exact .stays (inFrame_ne h).2.1
  · exact .selects h hp
  · exact .fails _ h (.inl hp) (xferAnswer_err ha).1
  · exact .receivesFirst _ r _ h hp
  · exact .fails _ h (.inr hp) (xferAnswer_err ha).1
  · exact .receivesSecond _ r _ h hp
  · exact .faults h hp ha
  · exact .completes h hp ha

theorem stallAct_acted {s : State} (h : inWait s.fsm = true) : Acted s (stallAct s.fsm s) := by
  unfold stallAct
  obtain ⟨-, e⟩ | ⟨-, -, e⟩ | ⟨-, -, e⟩ := waitAct_cases (.waitUs (stallUs s.fsm s.cfg)) (afterStall s.fsm) s <;> rw [e]
  · exact .waits _ (.inl h)
  · exact .resumes h
  · exact .stays (inWait_ne h).2.1

theorem resetAct_acted {s : State} (h : s.fsm = .rst) : Acted s (resetAct s) := by
  obtain ⟨hp, e⟩ | ⟨hp, -, e⟩ | ⟨hp, -, -, e⟩ | ⟨-, -, -, e⟩ | ⟨hp, e⟩ := resetAct_cases s <;> rw [e]
  · exact .pulses h hp
  · exact .waits _ (.inr ⟨h, hp⟩)
  · exact .elapses h hp
  · exact .stays (by simp [h])
  · exact .releases h hp

/-- Every event of the block is of one of the kinds (R21, R30). -/
theorem act_acted (s : State) : Acted s (act s) := by
  obtain h | h | h | h | h | h := fsm_kinds s.fsm
  · rw [act_of_idle h]
    unfold idleAct
    split
    · exact .stays (by simp [h])
    · exact .takes h (by simp [*])
  · rw [act_of_check h]; exact checkAct_acted h
  · rw [act_of_inFrame h]; exact frameAct_acted h
  · rw [act_of_inWait h]; exact stallAct_acted h
  · rw [act_of_rst h]; exact resetAct_acted h
  · rw [act_of_resp h]; exact .responds h

/-! ### What every kind keeps -/

@[simp] theorem respAct_eq (s : State) : respAct s = respond .ok (resultPayload s) s := rfl

theorem Acted.cfg {s t : State} (h : Acted s t) : t.cfg = s.cfg := by cases h <;> simp

theorem Acted.host {s t : State} (h : Acted s t) : t.host = s.host := by cases h <;> simp

/-- No event of the block ends the recovery window (R33). -/
theorem Acted.devRecovering {s t : State} (h : Acted s t) (hd : s.devRecovering = true) : t.devRecovering = true := by
  cases h <;> simp [hd]

/-- Every kind of event emits at most one bus event (R30). -/
theorem Acted.bus {s t : State} (h : Acted s t) : t.bus = s.bus ∨ ∃ e, t.bus = s.bus ++ [e] := by
  cases h <;> simp

/-- Only the end of a frame and the end of a reset pulse move the device's page (R28, R122). -/
theorem Acted.devPage {s t : State} (h : Acted s t) (hf : ¬(inFrame s.fsm = true ∧ s.fpos = .csOff))
    (hr : ¬(s.fsm = .rst ∧ s.rpos = .lineOff)) : t.devPage = s.devPage := by
  cases h <;> simp_all

/-- What waits at the port, the parameters and the latches of the request in flight are the same (R23). -/
structure SameLatches (s t : State) : Prop where
  cfg : t.cfg = s.cfg
  reqOp : t.reqOp = s.reqOp
  reqPage : t.reqPage = s.reqPage
  reqOff : t.reqOff = s.reqOff
  reqData : t.reqData = s.reqData
  offered : t.offered = s.offered

theorem SameLatches.refl (s : State) : SameLatches s s := ⟨rfl, rfl, rfl, rfl, rfl, rfl⟩

theorem SameLatches.trans {s t u : State} (h : SameLatches s t) (k : SameLatches t u) : SameLatches s u :=
  ⟨k.cfg.trans h.cfg, k.reqOp.trans h.reqOp, k.reqPage.trans h.reqPage, k.reqOff.trans h.reqOff,
    k.reqData.trans h.reqData, k.offered.trans h.offered⟩

theorem SameLatches.hostTurn (s : State) : SameLatches s (hostTurn s) := by
  constructor <;> simp

/-- Only `S_CHECK` writes the request latches and takes a request from the port (R22, R23). -/
theorem Acted.latches {s t : State} (h : Acted s t) (hc : s.fsm ≠ .check) : SameLatches s t := by
  cases h
  case drops hx | refuses hx | admits hx _ => exact absurd hx hc
  all_goals constructor <;> simp

/-- An event of a busy block does not lead to `S_CHECK` (R21). -/
theorem Acted.ne_check {s t : State} (h : Acted s t) (hi : s.fsm ≠ .idle) (hc : s.fsm ≠ .check) : t.fsm ≠ .check := by
  cases h
  case completes hf _ _ => exact (inWait_ne (inWait_stallOf hf)).2.1
  all_goals simp_all [afterStall_ne_check]

end Sys2Proof.Machine
end

section
/-! SUPPORT. Ticks, runs of a busy block, and the step as such a run (R21, R30; log 6). -/

namespace Sys2Proof.Machine

/-! ### Ticks -/

theorem tick_acted (s : State) : Acted (hostTurn s) (tick s) := act_acted (hostTurn s)

@[simp] theorem tick_cfg (s : State) : (tick s).cfg = s.cfg := by
  rw [(tick_acted s).cfg, hostTurn_cfg]

theorem tick_latches {s : State} (hc : s.fsm ≠ .check) : SameLatches s (tick s) :=
  (SameLatches.hostTurn s).trans ((tick_acted s).latches (by simpa using hc))

theorem tick_ne_check {s : State} (hi : s.fsm ≠ .idle) (hc : s.fsm ≠ .check) : (tick s).fsm ≠ .check :=
  (tick_acted s).ne_check (by simpa using hi) (by simpa using hc)

/-- In a frame state a tick is the host's turn and the frame's next event. -/
theorem tick_of_inFrame {s : State} (h : inFrame s.fsm = true) :
    tick s = frameAct s.fsm (frameBytes s).1 (frameBytes s).2 (hostTurn s) := by
  rw [tick, act_of_inFrame (by simpa using h), frameBytes_hostTurn, hostTurn_fsm]

/-! ### Runs of a busy block -/

/-- One tick of a busy block. -/
def BusyTick (s t : State) : Prop := s.fsm ≠ .idle ∧ t = tick s

/-- Ticks of a block as long as it is busy. -/
abbrev BusyRun : State → State → Prop := Relation.ReflTransGen BusyTick

theorem BusyRun.tick {s : State} (h : s.fsm ≠ .idle) : BusyRun s (tick s) := .single ⟨h, rfl⟩

/-- What holds at the start of a run and is kept by every tick of a busy block holds at its end. -/
theorem BusyRun.keeps {P : State → Prop} (h : ∀ u, P u → u.fsm ≠ .idle → P (Machine.tick u)) {s t : State}
    (hr : BusyRun s t) (hs : P s) : P t := by
  induction hr with
  | refl => exact hs
  | tail _ hb ih => obtain ⟨hi, rfl⟩ := hb; exact h _ ih hi

/-- A run is a number of ticks (R30). -/
theorem BusyRun.iterate {s t : State} (h : BusyRun s t) : ∃ n : Nat, t = Machine.tick^[n] s := by
  induction h with
  | refl => exact ⟨0, rfl⟩
  | tail _ hb ih =>
    obtain ⟨n, rfl⟩ := ih
    exact ⟨n + 1, by rw [hb.2, Function.iterate_succ_apply']⟩

/-- A run that starts past `S_CHECK` never comes to it, and keeps the latches and the port (R22, R23). -/
theorem BusyRun.inFlight {s t : State} (h : BusyRun s t) (hc : s.fsm ≠ .check) : t.fsm ≠ .check ∧ SameLatches s t :=
  h.keeps (P := fun u => u.fsm ≠ .check ∧ SameLatches s u)
    (fun _ hu hi => ⟨tick_ne_check hi hu.1, hu.2.trans (tick_latches hu.1)⟩) ⟨hc, .refl s⟩

/-! ### Frames, stalls, the pulse and the response are runs -/

/-- Where the position calls for these bytes, an event of the frame is a tick. -/
theorem frameEvent_tick {x : Fsm} {b0 b1 : Byte} {s : State} (hx : inFrame x = true)
    (hb : s.fsm = x → frameBytes s = (b0, b1)) :
    frameEvent x b0 b1 s = s ∨ (s.fsm = x ∧ frameEvent x b0 b1 s = tick s) := by
  by_cases h : s.fsm = x
  · subst h
    exact .inr ⟨rfl, by rw [frameEvent, if_pos rfl, tick_of_inFrame hx, hb rfl]⟩
  · exact .inl (frameEvent_of_ne h)

section
variable {s : State}

theorem frameBytes_psel (h : s.fsm = .psel) : frameBytes s = (0x80, s.reqPage) := by simp [frameBytes, h]
theorem frameBytes_raddr (h : s.fsm = .raddr) : frameBytes s = (s.reqOff, 0x00) := by simp [frameBytes, h]
theorem frameBytes_rdata (h : s.fsm = .rdata) : frameBytes s = (0x00, 0x00) := by simp [frameBytes, h]
theorem frameBytes_wlo (h : s.fsm = .wlo) : frameBytes s = (wloB0 s.reqOff, lowByte s.reqData) := by
  simp [frameBytes, h]
theorem frameBytes_whi (h : s.fsm = .whi) : frameBytes s = (whiB0 s.reqOff, highByte s.reqData) := by
  simp [frameBytes, h]
theorem frameBytes_bprime (h : s.fsm = .bprime) : frameBytes s = (burstTx s.cfg.burst 0, 0x00) := by
  simp [frameBytes, h]
theorem frameBytes_bcap (h : s.fsm = .bcap) : frameBytes s = (burstTx s.cfg.burst s.bk.toNat, 0x00) := by
  simp [frameBytes, h]

end

/-- An event of a frame leaves the capture counter alone. -/
theorem frameAct_bk (x : Fsm) (b0 b1 : Byte) (s : State) : (frameAct x b0 b1 s).bk = s.bk := by
  obtain ⟨-, -, e⟩ | ⟨-, e⟩ | ⟨-, -, e⟩ | ⟨-, r, -, e⟩ | ⟨-, -, e⟩ | ⟨-, r, -, e⟩ | ⟨-, -, e⟩ | ⟨-, -, e⟩ :=
    frameAct_cases x b0 b1 s <;> simp [e]

/-- The bytes of a position come from the latches, the configuration and the capture counter (R66). -/
theorem SameLatches.frameBytes {s t : State} (h : SameLatches s t) (hx : t.fsm = s.fsm) (hk : t.bk = s.bk) :
    frameBytes t = frameBytes s := by
  simp only [Machine.frameBytes, hx, hk, h.cfg, h.reqPage, h.reqOff, h.reqData]

/-- As long as the frame lasts, the position calls for the same bytes. -/
theorem frameEvent_bytes {x : Fsm} {b0 b1 : Byte} {s : State} (hx : inFrame x = true)
    (hb : s.fsm = x → frameBytes s = (b0, b1)) :
    (frameEvent x b0 b1 s).fsm = x → frameBytes (frameEvent x b0 b1 s) = (b0, b1) := by
  by_cases h : s.fsm = x
  · obtain e | ⟨-, e⟩ := frameEvent_tick hx hb
    · rwa [e]
    · subst h
      have hk : (tick s).bk = s.bk := by rw [tick_of_inFrame hx, frameAct_bk, hostTurn_bk]
      rw [e]
      exact fun hf => ((tick_latches (inFrame_ne hx).2.1).frameBytes hf hk).trans (hb rfl)
  · rwa [frameEvent_of_ne h]

theorem frame_run {x : Fsm} {b0 b1 : Byte} {r s : State} (hr : BusyRun r s) (hx : inFrame x = true)
    (hb : s.fsm = x → frameBytes s = (b0, b1)) : BusyRun r (frame x b0 b1 s) := by
  refine (frame_keeps (P := fun u => BusyRun r u ∧ (u.fsm = x → frameBytes u = (b0, b1))) ?_ ⟨hr, hb⟩).1
  rintro u ⟨hu, hub⟩
  refine ⟨?_, frameEvent_bytes hx hub⟩
  obtain e | ⟨hf, e⟩ := frameEvent_tick hx hub <;> rw [e]
  · exact hu
  · exact hu.trans (BusyRun.tick (by rw [hf]; exact (inFrame_ne hx).1))

theorem stallEvent_run {x : Fsm} {r s : State} (hr : BusyRun r s) (hx : inWait x = true) :
    BusyRun r (stallEvent x s) := by
  by_cases h : s.fsm = x
  · subst h
    have e : stallEvent s.fsm s = tick s := by
      rw [stallEvent, if_pos rfl, tick, act_of_inWait (by simpa using hx), hostTurn_fsm]
    rw [e]; exact hr.trans (BusyRun.tick (inWait_ne hx).1)
  · rwa [stallEvent_of_ne h]

/-- A frame and its stall are a run, where the position calls for that frame's bytes (R164). -/
theorem framePhase_run {x : Fsm} {b0 b1 : Byte} {r s : State} (hr : BusyRun r s) (hx : inFrame x = true)
    (hb : s.fsm = x → frameBytes s = (b0, b1)) : BusyRun r (framePhase x b0 b1 s) :=
  stallEvent_run (stallEvent_run (frame_run hr hx hb) (inWait_stallOf hx)) (inWait_stallOf hx)

theorem resetEvent_run {r s : State} (hr : BusyRun r s) : BusyRun r (resetEvent s) := by
  by_cases h : s.fsm = .rst
  · have e : resetEvent s = tick s := by rw [resetEvent, if_pos h, tick, act_of_rst (by simpa using h)]
    rw [e]; exact hr.trans (BusyRun.tick (by simp [h]))
  · rwa [resetEvent, if_neg h]

theorem pulseReset_run {r s : State} (hr : BusyRun r s) : BusyRun r (pulseReset s) :=
  resetEvent_run (resetEvent_run (resetEvent_run (resetEvent_run hr)))

theorem respondResult_run {r s : State} (hr : BusyRun r s) : BusyRun r (respondResult s) := by
  by_cases h : s.fsm = .resp
  · have e : respondResult s = tick s := by rw [respondResult, if_pos h, tick, act_of_resp (by simpa using h)]
    rw [e]; exact hr.trans (BusyRun.tick (by simp [h]))
  · rwa [respondResult_of_ne h]

/-! ### Operations are runs -/

theorem selectPage_run {r s : State} {p : Byte} (hr : BusyRun r s) (hp : s.reqPage = p) : BusyRun r (selectPage p s) :=
  framePhase_run hr rfl (fun h => by rw [frameBytes_psel h, hp])

section
variable (first : Fsm) (s : State)

@[simp] theorem pageDecision_reqOp : (pageDecision first s).reqOp = s.reqOp := by
  unfold pageDecision; split <;> rfl
@[simp] theorem pageDecision_reqPage : (pageDecision first s).reqPage = s.reqPage := by
  unfold pageDecision; split <;> rfl
@[simp] theorem pageDecision_reqOff : (pageDecision first s).reqOff = s.reqOff := by
  unfold pageDecision; split <;> rfl
@[simp] theorem pageDecision_reqData : (pageDecision first s).reqData = s.reqData := by
  unfold pageDecision; split <;> rfl

end

theorem pageDecision_ne_check {first : Fsm} (s : State) (h : first ≠ .check) : (pageDecision first s).fsm ≠ .check := by
  obtain ⟨-, e⟩ | ⟨-, e⟩ := pageDecision_cases first s <;> simp [e, h]

/-- The admission of a request does not lead to `S_CHECK` (R21). -/
theorem accept_ne_check {i : Instr} (hi : i.isRequest = true) (s : State) : (accept i s).fsm ≠ .check := by
  cases i <;> simp_all [accept, Instr.isRequest, pageDecision_ne_check]

section
variable (page off : Byte) (v : Word) (s : State)

@[simp] theorem accept_readReg_reqPage : (accept (.readReg page off) s).reqPage = page := by simp [accept]
@[simp] theorem accept_readReg_reqOff : (accept (.readReg page off) s).reqOff = off := by simp [accept]
@[simp] theorem accept_writeReg_reqPage : (accept (.writeReg page off v) s).reqPage = page := by simp [accept]
@[simp] theorem accept_writeReg_reqOff : (accept (.writeReg page off v) s).reqOff = off := by simp [accept]
@[simp] theorem accept_writeReg_reqData : (accept (.writeReg page off v) s).reqData = v := by simp [accept]
@[simp] theorem accept_readBurst_reqPage : (accept .readBurst s).reqPage = 0x00 := by simp [accept]

end

theorem runReadReg_run (page off : Byte) (s : State) :
    BusyRun (accept (.readReg page off) s) (runReadReg page off s) := by
  have hc := accept_ne_check (i := .readReg page off) rfl s
  have h1 := selectPage_run (p := page) (.refl (a := accept (.readReg page off) s)) (by simp)
  have h2 := framePhase_run (x := .raddr) (b0 := off) (b1 := 0x00) h1 rfl
    (fun hf => by rw [frameBytes_raddr hf, (h1.inFlight hc).2.reqOff, accept_readReg_reqOff])
  have h3 := framePhase_run (x := .rdata) (b0 := 0x00) (b1 := 0x00) h2 rfl frameBytes_rdata
  exact respondResult_run h3

theorem runWriteReg_run (page off : Byte) (v : Word) (s : State) :
    BusyRun (accept (.writeReg page off v) s) (runWriteReg page off v s) := by
  have hc := accept_ne_check (i := .writeReg page off v) rfl s
  have h1 := selectPage_run (p := page) (.refl (a := accept (.writeReg page off v) s)) (by simp)
  have h2 := framePhase_run (x := .wlo) (b0 := wloB0 off) (b1 := lowByte v) h1 rfl
    (fun hf => by rw [frameBytes_wlo hf, (h1.inFlight hc).2.reqOff, (h1.inFlight hc).2.reqData]; simp)
  have h3 := framePhase_run (x := .whi) (b0 := whiB0 off) (b1 := highByte v) h2 rfl
    (fun hf => by rw [frameBytes_whi hf, (h2.inFlight hc).2.reqOff, (h2.inFlight hc).2.reqData]; simp)
  exact respondResult_run h3

theorem captureFrames_run (n : Nat) {r s : State} (hr : BusyRun r s) : BusyRun r (captureFrames n s) := by
  induction n generalizing s with
  | zero => exact hr
  | succ n ih => exact ih (framePhase_run hr rfl frameBytes_bcap)

theorem runReadBurst_run (s : State) : BusyRun (accept .readBurst s) (runReadBurst s) := by
  have hc := accept_ne_check (i := .readBurst) rfl s
  have h1 := selectPage_run (p := 0x00) (.refl (a := accept .readBurst s)) (by simp)
  have h2 := framePhase_run (x := .bprime) (b0 := burstTx s.cfg.burst 0) (b1 := 0x00) h1 rfl
    (fun hf => by rw [frameBytes_bprime hf, (h1.inFlight hc).2.cfg, accept_cfg])
  exact respondResult_run (captureFrames_run 9 h2)

theorem operate_of_idle {i : Instr} {run : State → State} {s : State} (h : s.fsm = .idle) :
    operate i run s = .next (run (checked s)) := if_pos h

theorem operate_of_busy {i : Instr} {run : State → State} {s : State} (h : s.fsm ≠ .idle) :
    operate i run s = .next (offer i s) := if_neg h

theorem checkOff_of_admitted {off : Byte} (h : admittedOff off = true) : checkOff off = none := by
  simp_all [admittedOff, checkOff]

theorem exec_readReg_of_idle {page off : Byte} {s : State} (hs : s.fsm = .idle) (ho : admittedOff off = true) :
    exec (.readReg page off) s = .next (runReadReg page off (checked s)) := by
  simp only [exec, execReadReg, operate_of_idle hs, checkOff_of_admitted ho]

theorem exec_writeReg_of_idle {page off : Byte} {v : Word} {s : State} (hs : s.fsm = .idle)
    (ho : admittedOff off = true) :
    exec (.writeReg page off v) s = .next (runWriteReg page off v (checked s)) := by
  simp only [exec, execWriteReg, operate_of_idle hs, checkOff_of_admitted ho]

/-- A request executed on a busy block waits at the port (R22; log 16). -/
theorem exec_of_busy {i : Instr} {s : State} (hi : i.isRequest = true) (hs : s.fsm ≠ .idle) :
    exec i s = .next (offer i s) := by
  cases i with
  | psel _ | raddr _ | rdata | wlo _ _ | whi _ _ | breq _ | bend _ => cases hi
  | _ =>
    simp only [exec, execReadReg, execWriteReg, execReadBurst, execResetDev, execScaleAccl, execScaleGyro,
      execScaleTemp, execScaleDang, execScaleDvel, operate_of_busy hs]

/-- A well-formed request executed on an idle block is admitted, after the host's two turns, and the rest is a run of
the busy block (R22, R80). -/
theorem exec_request_run {i : Instr} {s : State} (hi : i.isRequest = true) (hw : i.wellFormed = true)
    (hs : s.fsm = .idle) : ∃ t, exec i s = .next t ∧ BusyRun (accept i (checked s)) t := by
  cases i with
  | readReg page off => exact ⟨_, exec_readReg_of_idle hs hw, runReadReg_run page off _⟩
  | writeReg page off v => exact ⟨_, exec_writeReg_of_idle hs hw, runWriteReg_run page off v _⟩
  | readBurst => exact ⟨_, operate_of_idle hs, runReadBurst_run _⟩
  | resetDev ms =>
    exact ⟨_, by simp only [exec, execResetDev, operate_of_idle hs], respondResult_run (pulseReset_run .refl)⟩
  | scaleAccl raw => exact ⟨_, by simp only [exec, execScaleAccl, operate_of_idle hs], respondResult_run .refl⟩
  | scaleGyro raw => exact ⟨_, by simp only [exec, execScaleGyro, operate_of_idle hs], respondResult_run .refl⟩
  | scaleTemp raw => exact ⟨_, by simp only [exec, execScaleTemp, operate_of_idle hs], respondResult_run .refl⟩
  | scaleDang raw => exact ⟨_, by simp only [exec, execScaleDang, operate_of_idle hs], respondResult_run .refl⟩
  | scaleDvel raw => exact ⟨_, by simp only [exec, execScaleDvel, operate_of_idle hs], respondResult_run .refl⟩
  | psel _ | raddr _ | rdata | wlo _ _ | whi _ _ | breq _ | bend _ => cases hi

end Sys2Proof.Machine
end

section
/-! SUPPORT. What a step fetches, decoded (R22, R66), and the step as a run of ticks (log 6). -/

namespace Sys2Proof.Machine

/-! ### Decoded requests -/

theorem checkedAccess_ok {off : Byte} {i j : Instr} (h : checkedAccess off j = .ok i) :
    j = i ∧ admittedOff off = true := by
  unfold checkedAccess checkOff at h
  cases h0 : off.getLsbD 0 <;> cases h7 : off.getLsbD 7 <;> simp_all [refuseWith, admittedOff]

theorem zeroAddr_ok {addr : BitVec 16} {i j : Instr} (h : zeroAddr addr j = .ok i) : j = i := by
  unfold zeroAddr at h
  split at h <;> simp_all [refuseWith]

/-- What the decoder admits is a well-formed request (R73). -/
theorem decodeRequest_ok {w : ReqWord} {i : Instr} (h : decodeRequest w = .ok i) :
    i.isRequest = true ∧ i.wellFormed = true := by
  simp only [decodeRequest] at h
  split at h
  · cases h
  split at h
  · split at h
    · obtain ⟨rfl, ho⟩ := checkedAccess_ok h; exact ⟨rfl, ho⟩
    · cases h
  · obtain ⟨rfl, ho⟩ := checkedAccess_ok h; exact ⟨rfl, ho⟩
  · split at h <;> cases h; exact ⟨rfl, rfl⟩
  case h_10 => cases h
  all_goals obtain rfl := zeroAddr_ok h; exact ⟨rfl, rfl⟩

/-! ### Decoded frames -/

@[simp] theorem frameB0_frameWord (b0 b1 : Byte) : frameB0 (frameWord b0 b1) = b0 := by
  simp only [frameB0, frameWord]
  rw [BitVec.extractLsb'_append_eq_of_le (by omega)]; simp

@[simp] theorem frameB1_frameWord (b0 b1 : Byte) : frameB1 (frameWord b0 b1) = b1 := by
  simp only [frameB1, frameWord]
  rw [BitVec.extractLsb'_append_eq_of_add_le (by omega)]; simp

/-- The address byte of a low-byte frame is the one of the offset read back from it (R68). -/
theorem wloB0_masked_of_even (b0 : Byte) : b0.getLsbD 7 = true → b0.getLsbD 0 = false → wloB0 (b0 &&& 0x7E#8) = b0 := by
  revert b0; decide

/-- The address byte of a high-byte frame is the one of the offset read back from it (R68). -/
theorem whiB0_masked_of_odd (b0 : Byte) : b0.getLsbD 7 = true → b0.getLsbD 0 = true → whiB0 (b0 &&& 0x7E#8) = b0 := by
  revert b0; decide

/-- At its position, the frame that is fetched and decodes runs with the position's own bytes and is not placed (R66,
log 7). -/
theorem exec_fetchedFrame {s : State} {k : FrameKind} {i : Instr} (hk : frameKindAt s = some k) (hp : s.fpos = .csOn)
    (ha : s.aborting = false) (hd : decodeFrame k (frameWord (frameBytes s).1 (frameBytes s).2) = some i) :
    inFrame s.fsm = true ∧ exec i s = .next (framePhase s.fsm (frameBytes s).1 (frameBytes s).2 s) := by
  cases hx : s.fsm with
  | psel =>
    obtain rfl : FrameKind.psel = k := by simpa [frameKindAt, hx] using hk
    rw [frameBytes_psel hx] at hd ⊢
    obtain rfl : Instr.psel s.reqPage = i := by simpa [decodeFrame] using hd
    exact ⟨rfl, by simp [exec, execPsel, startFrame, atFrame, hx, hp, ha]⟩
  | raddr =>
    obtain rfl : FrameKind.raddr = k := by simpa [frameKindAt, hx] using hk
    rw [frameBytes_raddr hx] at hd ⊢
    obtain ⟨-, rfl⟩ : _ ∧ Instr.raddr s.reqOff = i := by simpa [decodeFrame] using hd
    exact ⟨rfl, by simp [exec, execRaddr, startFrame, atFrame, hx, hp, ha]⟩
  | rdata =>
    obtain rfl : FrameKind.rdata = k := by simpa [frameKindAt, hx] using hk
    rw [frameBytes_rdata hx] at hd ⊢
    obtain ⟨-, rfl⟩ : _ ∧ Instr.rdata = i := by simpa [decodeFrame] using hd
    exact ⟨rfl, by simp [exec, execRdata, startFrame, atFrame, hx, hp, ha]⟩
  | wlo =>
    obtain rfl : FrameKind.wlo = k := by simpa [frameKindAt, hx] using hk
    rw [frameBytes_wlo hx] at hd ⊢
    obtain ⟨⟨h7, h0⟩, rfl⟩ : _ ∧ Instr.wlo (wloB0 s.reqOff &&& 0x7E) (lowByte s.reqData) = i := by
      simpa [decodeFrame, writeFlag, oddOff] using hd
    exact ⟨rfl, by
      simp [exec, execWlo, startFrame, atFrame, hx, hp, ha, wloB0_masked_of_even _ h7 h0]⟩
  | whi =>
    obtain rfl : FrameKind.whi = k := by simpa [frameKindAt, hx] using hk
    rw [frameBytes_whi hx] at hd ⊢
    obtain ⟨⟨h7, h0⟩, rfl⟩ : _ ∧ Instr.whi (whiB0 s.reqOff &&& 0x7E) (highByte s.reqData) = i := by
      simpa [decodeFrame, writeFlag, oddOff] using hd
    exact ⟨rfl, by
      simp [exec, execWhi, startFrame, atFrame, hx, hp, ha, whiB0_masked_of_odd _ h7 h0]⟩
  | bprime =>
    obtain rfl : FrameKind.breq = k := by simpa [frameKindAt, hx] using hk
    rw [frameBytes_bprime hx] at hd ⊢
    obtain ⟨-, rfl⟩ : _ ∧ Instr.breq (burstTx s.cfg.burst 0) = i := by simpa [decodeFrame] using hd
    exact ⟨rfl, by simp [exec, execBreq, startFrame, atBurstRequest, atFrame, hx, hp, ha]⟩
  | bcap =>
    rw [frameBytes_bcap hx] at hd ⊢
    by_cases hb : s.bk.toNat ≤ 8
    · obtain rfl : FrameKind.breq = k := by simpa [frameKindAt, hx, hb] using hk
      obtain ⟨-, rfl⟩ : _ ∧ Instr.breq (burstTx s.cfg.burst s.bk.toNat) = i := by simpa [decodeFrame] using hd
      exact ⟨rfl, by simp [exec, execBreq, startFrame, atBurstRequest, atFrame, hx, hp, ha, hb]⟩
    · obtain rfl : FrameKind.bend = k := by simpa [frameKindAt, hx, hb] using hk
      obtain ⟨-, rfl⟩ : _ ∧ Instr.bend (burstTx s.cfg.burst s.bk.toNat) = i := by simpa [decodeFrame] using hd
      have hb' : 8 < s.bk.toNat := by omega
      exact ⟨rfl, by simp [exec, execBend, startFrame, atFrame, hx, hp, ha, hb']⟩
  | _ => simp [frameKindAt, hx] at hk

/-! ### The step -/

theorem fetch_of_busy {s : State} (h : s.fsm ≠ .idle) : fetch s = fetchFrame s := if_neg h

theorem fetch_request {s : State} {w : ReqWord} {r : List ReqWord} (h : s.fsm = .idle) (ho : s.offered = w :: r) :
    fetch s = some (.request w) := by
  simp [fetch, h, ho]

theorem fetch_of_idle_none {s : State} (h : s.fsm = .idle) (ho : s.offered = []) : fetch s = none := by
  simp [fetch, h, ho]

theorem fetchFrame_eq {s : State} {k : FrameKind} (hp : s.fpos = .csOn) (ha : s.aborting = false)
    (hk : frameKindAt s = some k) : fetchFrame s = some (.frame k (frameWord (frameBytes s).1 (frameBytes s).2)) := by
  simp [fetchFrame, hp, ha, hk]

/-- A busy block fetches nothing, or the frame of its position, which it is about to start (R66). -/
theorem fetchFrame_cases (s : State) :
    fetchFrame s = none ∨
    ∃ k, s.fpos = .csOn ∧ s.aborting = false ∧ frameKindAt s = some k ∧
      fetchFrame s = some (.frame k (frameWord (frameBytes s).1 (frameBytes s).2)) := by
  by_cases h : s.fpos = .csOn ∧ s.aborting = false
  · obtain ⟨hp, ha⟩ := h
    cases hk : frameKindAt s with
    | none => exact .inl (by simp [fetchFrame, hk])
    | some k => exact .inr ⟨k, hp, ha, rfl, fetchFrame_eq hp ha hk⟩
  · exact .inl (if_neg h)

theorem step_of_fetch_none {s : State} (h : fetch s = none) : step s = .next (tick s) := by simp [step, h]

theorem step_of_fetch {s : State} {f : Fetched} (h : fetch s = some f) : step s = runFetched exec f s := by
  simp [step, h]

theorem runFetched_ok {f : Fetched} {i : Instr} {s : State} (h : decode f = .ok i) :
    runFetched exec f s = exec i (taken f s) := by
  simp [runFetched, h]

theorem runFetched_refused {f : Fetched} {c : RefuseCode} {s : State} (h : decode f = .error (.refused c)) :
    runFetched exec f s = .next (refuse c (checked (taken f s))) := by
  simp [runFetched, h]

theorem runFetched_notAFrame {f : Fetched} {s : State} (h : decode f = .error .notAFrame) :
    runFetched exec f s = .next (tick s) := by
  simp [runFetched, h]

theorem decode_frame_of_some {k : FrameKind} {w : FrameWord} {i : Instr} (h : decodeFrame k w = some i) :
    decode (.frame k w) = .ok i := by
  simp [decode, h]

theorem decode_frame_of_none {k : FrameKind} {w : FrameWord} (h : decodeFrame k w = none) :
    decode (.frame k w) = .error .notAFrame := by
  simp [decode, h]

/-- The host's two turns before an admission commute with taking the request from the port. -/
theorem checked_offered (s : State) (l : List ReqWord) :
    checked { s with offered := l } = { checked s with offered := l } := by
  rw [checked_turns, checked_turns, turns_eq, turns_eq 2 s, turns_devRecovering, turns_devRecovering]

/-- The tick that takes a request for checking (R22). -/
theorem tick_takes {s : State} {w : ReqWord} {r : List ReqWord} (h : s.fsm = .idle) (ho : s.offered = w :: r) :
    tick s = goto .check (hostTurn s) := by
  rw [tick, act_of_idle (by simpa using h), idleAct]
  simp [ho]

theorem checkAct_of_ok {s : State} {w : ReqWord} {r : List ReqWord} {i : Instr} (ho : s.offered = w :: r)
    (hd : decodeRequest w = .ok i) : checkAct s = accept i { s with offered := r } := by
  simp [checkAct, ho, hd]

theorem checkAct_of_refused {s : State} {w : ReqWord} {r : List ReqWord} {c : RefuseCode} (ho : s.offered = w :: r)
    (hd : decodeRequest w = .error (.refused c)) : checkAct s = refuse c { s with offered := r } := by
  simp [checkAct, ho, hd]

/-- The two ticks that take a request and check it (R21, R80, R142). -/
theorem tick_tick_of_idle {s : State} {w : ReqWord} {r : List ReqWord} (h : s.fsm = .idle) (ho : s.offered = w :: r) :
    tick (tick s) = checkAct (goto .check (checked s)) := by
  have e : hostTurn (goto .check (hostTurn s)) = goto .check (checked s) := turns_goto 1 .check (hostTurn s)
  rw [tick_takes h ho, tick, e, act_of_check rfl]

/-- The admission of a request does not depend on the position it is made from. -/
theorem accept_goto {i : Instr} (hi : i.isRequest = true) (x : Fsm) (s : State) :
    accept i (goto x s) = accept i s := by
  cases i with
  | psel _ | raddr _ | rdata | wlo _ _ | whi _ _ | breq _ | bend _ => cases hi
  | _ => rfl

@[simp] theorem offered_checked (s : State) : (checked s).offered = s.offered := by
  simp [checked]

/-- An idle block's two ticks on a request that decodes are its admission (R21, R80). -/
theorem tick_tick_of_ok {s : State} {w : ReqWord} {r : List ReqWord} {i : Instr} (h : s.fsm = .idle)
    (ho : s.offered = w :: r) (hd : decodeRequest w = .ok i) :
    tick (tick s) = accept i (checked { s with offered := r }) := by
  rw [tick_tick_of_idle h ho, checkAct_of_ok (by rw [goto_offered, offered_checked, ho]) hd, checked_offered s r]
  exact accept_goto (decodeRequest_ok hd).1 .check { checked s with offered := r }

/-- An idle block's two ticks on a request that does not decode are its refusal (R142). -/
theorem tick_tick_of_refused {s : State} {w : ReqWord} {r : List ReqWord} {c : RefuseCode} (h : s.fsm = .idle)
    (ho : s.offered = w :: r) (hd : decodeRequest w = .error (.refused c)) :
    tick (tick s) = refuse c (checked { s with offered := r }) := by
  rw [tick_tick_of_idle h ho, checkAct_of_refused (by rw [goto_offered, offered_checked, ho]) hd,
    checked_offered s r]
  rfl

/-- A step of an idle block with a request at its port: the tick that takes it, and a run of the busy block. -/
theorem step_request_run {s : State} {w : ReqWord} {r : List ReqWord} (h : s.fsm = .idle) (ho : s.offered = w :: r) :
    ∃ t, step s = .next t ∧ BusyRun (tick s) t := by
  have busy : (tick s).fsm ≠ .idle := by rw [tick_takes h ho]; simp
  have ht : taken (.request w) s = { s with offered := r } := by simp [taken, ho]
  rw [step_of_fetch (fetch_request h ho)]
  cases hd : decodeRequest w with
  | ok i =>
    obtain ⟨hi, hw⟩ := decodeRequest_ok hd
    obtain ⟨t, he, hr⟩ := exec_request_run (s := { s with offered := r }) hi hw h
    refine ⟨t, by rw [runFetched_ok (f := .request w) hd, ht, he], ?_⟩
    rw [← tick_tick_of_ok h ho hd] at hr
    exact .head ⟨busy, rfl⟩ hr
  | error d =>
    cases d with
    | refused c =>
      refine ⟨tick (tick s), ?_, BusyRun.tick busy⟩
      rw [tick_tick_of_refused h ho hd, ← ht]; exact runFetched_refused hd
    | notAFrame =>
      exact ⟨tick s, runFetched_notAFrame hd, .refl⟩

/-- Every step is a run of a busy block, or such a run after one tick (R30; log 6). -/
theorem step_run (s : State) : ∃ t, step s = .next t ∧ (s.fsm ≠ .idle ∧ BusyRun s t ∨ BusyRun (tick s) t) := by
  by_cases hi : s.fsm = .idle
  · cases ho : s.offered with
    | nil => exact ⟨tick s, step_of_fetch_none (fetch_of_idle_none hi ho), .inr .refl⟩
    | cons w r =>
      obtain ⟨t, he, hr⟩ := step_request_run hi ho
      exact ⟨t, he, .inr hr⟩
  · obtain hf | ⟨k, hp, ha, hk, hf⟩ := fetchFrame_cases s
    · exact ⟨tick s, step_of_fetch_none ((fetch_of_busy hi).trans hf), .inr .refl⟩
    · rw [step_of_fetch ((fetch_of_busy hi).trans hf)]
      cases hd : decodeFrame k (frameWord (frameBytes s).1 (frameBytes s).2) with
      | none => exact ⟨tick s, runFetched_notAFrame (decode_frame_of_none hd), .inr .refl⟩
      | some i =>
        obtain ⟨hx, he⟩ := exec_fetchedFrame hk hp ha hd
        exact ⟨_, (runFetched_ok (decode_frame_of_some hd)).trans he, .inl ⟨hi, framePhase_run .refl hx (fun _ => rfl)⟩⟩

theorem step_next_run {s t : State} (h : step s = .next t) : s.fsm ≠ .idle ∧ BusyRun s t ∨ BusyRun (tick s) t := by
  obtain ⟨u, he, hr⟩ := step_run s
  obtain rfl : u = t := by rw [he] at h; injection h
  exact hr

end Sys2Proof.Machine
end

section
/-! SUPPORT. The sequencer's invariant (R21, R26, R153, R165) is kept by every event of the block. -/

namespace Sys2Proof.Machine

/-- What the latches hold where the position is `x`: the clauses of `State.Inv` that do not speak of a frame, a
wait or a pulse in progress. -/
structure State.Fits (x : Fsm) (s : State) : Prop where
  op : opFits x s.reqOp = true
  off : inAccess x = true → s.reqOp ≠ 0x2 → admittedOff s.reqOff = true
  burstPage : inAccess x = true → s.reqOp = 0x2 → s.reqPage = 0x00
  page : pastSelect x = true → s.curPage = s.reqPage
  bk : x = .bcap ∨ x = .bcapWait → 1 ≤ s.bk.toNat ∧ s.bk.toNat ≤ 9
  port : x = .check → s.offered ≠ []

theorem State.Inv.fits {s : State} (h : s.Inv) : s.Fits s.fsm :=
  ⟨h.op, h.off, h.burstPage, h.page, h.bk, h.port⟩

/-- Both lines are deasserted, and `xfault` is set only where it exists: what holds between two positions. -/
structure State.Rests (s : State) : Prop where
  cs : s.csLine = false
  rst : s.rstLine = false
  xfault : s.xfault = true → s.cfg.xportErrReporting = true

/-- Entering a position with the lines at rest and the latches that fit it (R21, R153). -/
theorem State.Rests.goto {s : State} {x : Fsm} (h : s.Rests) (hf : s.Fits x) : (goto x s).Inv where
  cs := by simp [h.cs]
  fposFrame := by simp
  rst := by simp [h.rst]
  rposRst := by simp
  waiting := by simp
  abort := by simp
  xfault := h.xfault
  op := hf.op
  off := hf.off
  burstPage := hf.burstPage
  page := hf.page
  bk := hf.bk
  port := hf.port

theorem fits_idle (s : State) : s.Fits .idle := by
  constructor <;> simp [opFits, inAccess, pastSelect]

/-- The response and the pulse ask for nothing but their op codes (R21). -/
theorem fits_of_not_inAccess {s : State} {x : Fsm} (hx : inAccess x = false) (hc : x ≠ .check)
    (ho : opFits x s.reqOp = true) : s.Fits x := by
  constructor <;> cases x <;> simp_all [inAccess, pastSelect]

theorem State.Inv.csLine_of_csOn {s : State} (h : s.Inv) (hp : s.fpos = .csOn) : s.csLine = false := by
  simpa [hp] using h.cs

theorem State.Inv.rposLineOn {s : State} (h : s.Inv) (hx : s.fsm ≠ .rst) : s.rpos = .lineOn := by
  by_contra hr; exact hx (h.rposRst hr)

theorem State.Inv.rstLine_of_ne {s : State} (h : s.Inv) (hx : s.fsm ≠ .rst) : s.rstLine = false := by
  simpa [h.rposLineOn hx] using h.rst

theorem State.Inv.fposCsOn {s : State} (h : s.Inv) (hx : inFrame s.fsm = false) : s.fpos = .csOn := by
  by_contra hp; simp [h.fposFrame hp] at hx

/-- Outside a frame and outside the pulse the block rests. -/
theorem State.Inv.rests {s : State} (h : s.Inv) (hf : inFrame s.fsm = false) (hr : s.fsm ≠ .rst) : s.Rests :=
  ⟨h.csLine_of_csOn (h.fposCsOn hf), h.rstLine_of_ne hr, h.xfault⟩

theorem inFrame_of_inWait {x : Fsm} (h : inWait x = true) : inFrame x = false := by
  cases x <;> simp_all [inWait, inFrame]

/-! ### The kinds of events that change the position -/

/-- A page decision starts an access at its page, or a page select (R80, R101). -/
theorem pageDecision_inv {first : Fsm} {s : State} (h : s.Rests) (hf : s.reqPage = s.curPage → s.Fits first)
    (hp : s.Fits .psel) : (pageDecision first s).Inv := by
  obtain ⟨hc, e⟩ | ⟨-, e⟩ := pageDecision_cases first s <;> rw [e]
  · exact h.goto (hf hc)
  · exact h.goto hp

/-- The admission of a well-formed request (R21, R80, R101, R120, R130). -/
theorem accept_inv {i : Instr} {s : State} (h : s.Rests) (hi : i.isRequest = true) (hw : i.wellFormed = true) :
    (accept i s).Inv := by
  have rests : ∀ (o : BitVec 4) (p f : Byte) (d : Word),
      ({ s with reqOp := o, reqPage := p, reqOff := f, reqData := d } : State).Rests :=
    fun _ _ _ _ => ⟨h.cs, h.rst, h.xfault⟩
  cases i with
  | readReg page off =>
    exact pageDecision_inv (rests 0x0 page off s.reqData)
      (fun hc => ⟨rfl, fun _ _ => hw, by simp, fun _ => hc.symm, by simp, by simp⟩)
      ⟨rfl, fun _ _ => hw, by simp, by simp [pastSelect], by simp, by simp⟩
  | writeReg page off v =>
    exact pageDecision_inv (rests 0x1 page off v)
      (fun hc => ⟨rfl, fun _ _ => hw, by simp, fun _ => hc.symm, by simp, by simp⟩)
      ⟨rfl, fun _ _ => hw, by simp, by simp [pastSelect], by simp, by simp⟩
  | readBurst =>
    exact pageDecision_inv (rests 0x2 0x00 0x00 s.reqData)
      (fun hc => ⟨rfl, by simp, by simp, fun _ => hc.symm, by simp, by simp⟩)
      ⟨rfl, by simp, by simp, by simp [pastSelect], by simp, by simp⟩
  | resetDev ms => exact (rests 0x3 0x00 0x00 ms).goto (fits_of_not_inAccess rfl (by simp) rfl)
  | scaleAccl raw => exact (rests 0x8 0x00 0x00 raw).goto (fits_of_not_inAccess rfl (by simp) rfl)
  | scaleGyro raw => exact (rests 0x9 0x00 0x00 raw).goto (fits_of_not_inAccess rfl (by simp) rfl)
  | scaleTemp raw => exact (rests 0xA 0x00 0x00 raw).goto (fits_of_not_inAccess rfl (by simp) rfl)
  | scaleDang raw => exact (rests 0xB 0x00 0x00 raw).goto (fits_of_not_inAccess rfl (by simp) rfl)
  | scaleDvel raw => exact (rests 0xC 0x00 0x00 raw).goto (fits_of_not_inAccess rfl (by simp) rfl)
  | psel _ | raddr _ | rdata | wlo _ _ | whi _ _ | breq _ | bend _ => cases hi

/-- The latches of a frame fit its stall, once a page select has written `cur_page` (R82). -/
theorem State.Fits.stallOf {s : State} {x : Fsm} (hx : inFrame x = true) (h : s.Fits x) :
    ({ s with curPage := if x = .psel then s.reqPage else s.curPage } : State).Fits (stallOf x) := by
  obtain ⟨ho, hf, hb, hp, hk, -⟩ := h
  cases x with
  | psel | raddr | rdata | wlo | whi | bprime | bcap =>
    constructor <;> simp_all [Machine.stallOf, opFits, inAccess, pastSelect]
  | _ => cases hx

/-- The op codes that can be in flight at a page select each have their access (R21). -/
theorem fits_firstState {s : State} (h : s.Fits .pselWait) : s.Fits (firstState s.reqOp) := by
  obtain ⟨ho, hf, hb, hp, -, -⟩ := h
  obtain e | e | e : s.reqOp = 0x0 ∨ s.reqOp = 0x1 ∨ s.reqOp = 0x2 := by simpa [opFits, or_assoc] using ho
  all_goals rw [e]; constructor <;> simp_all [firstState, opFits, inAccess, pastSelect]

/-- What follows a stall keeps the invariant (R21, R84, R85, R102). -/
theorem afterStall_inv {s : State} {x : Fsm} (hx : inWait x = true) (h : s.Rests) (hf : s.Fits x) :
    (afterStall x s).Inv := by
  have rests : ∀ (d : Word) (b : BurstFields Word) (k : BitVec 4),
      ({ s with rdata := d, bbuf := b, bk := k } : State).Rests :=
    fun _ _ _ => ⟨h.cs, h.rst, h.xfault⟩
  have ho := hf.op
  cases x with
  | pselWait => exact h.goto (fits_firstState hf)
  | raddrWait => exact h.goto ⟨hf.op, hf.off, hf.burstPage, hf.page, by simp, by simp⟩
  | rdataWait => exact (rests _ s.bbuf s.bk).goto (fits_of_not_inAccess rfl (by simp) (by simp_all [opFits]))
  | wloWait => exact h.goto ⟨hf.op, hf.off, hf.burstPage, hf.page, by simp, by simp⟩
  | whiWait => exact h.goto (fits_of_not_inAccess rfl (by simp) (by simp_all [opFits]))
  | bprimeWait =>
    exact (rests s.rdata s.bbuf 1).goto ⟨hf.op, hf.off, hf.burstPage, hf.page, fun _ => by simp, by simp⟩
  | bcapWait =>
    rw [afterStall]
    obtain ⟨hb, e⟩ | ⟨-, e⟩ := nextCapture_cases (captureBurst s) <;> rw [e]
    · have hb' : s.bk.toNat < 9 := hb
      refine (rests s.rdata _ (s.bk + 1)).goto ⟨hf.op, hf.off, hf.burstPage, hf.page, fun _ => ?_, by simp⟩
      rw [BitVec.toNat_add]
      simp; omega
    · exact (rests s.rdata _ s.bk).goto (fits_of_not_inAccess rfl (by simp) (by simp_all [opFits]))
  | _ => cases hx

/-! ### Every event -/

theorem State.Inv.hostTurn {s : State} (h : s.Inv) : (hostTurn s).Inv := by
  rw [hostTurn_eq]
  exact ⟨h.cs, h.fposFrame, h.rst, h.rposRst, h.waiting, h.abort, h.xfault, h.op, h.off, h.burstPage, h.page, h.bk,
    h.port⟩

/-- An exchange of a frame: the sub-position and the abort mark move, and nothing else the invariant speaks of (R83,
R143). -/
theorem exchange_inv {s : State} (h : s.Inv) (hf : inFrame s.fsm = true) (hs : s.fpos ≠ .csOn) {p : FPos}
    (hp : p ≠ .csOn) {a : Bool} (ha : a = true → p = .csOff ∧ s.cfg.xportErrReporting = true) (r0 r1 : Byte)
    (e : BusEvent) :
    (emit e (answered { s with fpos := p, aborting := a, rx0 := r0, rx1 := r1 })).Inv :=
  { h with cs := by simp [hp, h.cs.2 hs], fposFrame := fun _ => hf, abort := ha }

/-- Before the end of the frame no exchange has failed (R143). -/
theorem State.Inv.not_aborting {s : State} (h : s.Inv) (hp : s.fpos ≠ .csOff) : ¬s.aborting = true :=
  fun ha => hp (h.abort ha).1

/-- The end of a failed frame (R143). -/
theorem transportFault_inv {s : State} (h : s.Inv) (hf : inFrame s.fsm = true) (ha : s.aborting = true) :
    (transportFault s).Inv := by
  unfold transportFault respond
  exact State.Rests.goto ⟨rfl, h.rstLine_of_ne (inFrame_ne hf).2.2.1, fun _ => (h.abort ha).2⟩ (fits_idle _)

/-- The end of a completed frame (R28, R82, R83). -/
theorem csDeassert_inv {s : State} (h : s.Inv) (hf : inFrame s.fsm = true) :
    (csDeassert s.fsm (frameBytes s).1 (frameBytes s).2 s).Inv := by
  have hb : (if s.fsm = .psel then (frameBytes s).2 else s.curPage) =
      if s.fsm = .psel then s.reqPage else s.curPage := by
    split
    · rw [frameBytes_psel ‹_›]
    · rfl
  unfold csDeassert
  rw [hb]
  obtain ⟨ho, hoff, hbp, hp, hk, hport⟩ := h.fits.stallOf hf
  exact State.Rests.goto ⟨rfl, h.rstLine_of_ne (inFrame_ne hf).2.2.1, h.xfault⟩ ⟨ho, hoff, hbp, hp, hk, hport⟩

/-- A response leaves the block idle, with its lines as they were (R10, R74). -/
theorem respond_inv {s : State} (h : s.Rests) (st : Status) (p : Payload) : (respond st p s).Inv :=
  State.Rests.goto ⟨h.cs, h.rst, h.xfault⟩ (fits_idle _)

/-- Every event keeps the sequencer's invariant. -/
theorem Acted.inv {s t : State} (ha : Acted s t) (h : s.Inv) : t.Inv := by
  cases ha with
  | stays _ => exact h
  | takes hx ho =>
    exact (h.rests (by simp [hx, inFrame]) (by simp [hx])).goto
      ⟨rfl, by simp [inAccess, pastSelect], by simp [inAccess, pastSelect], by simp [pastSelect], by simp, fun _ => ho⟩
  | drops hx =>
    obtain ⟨hc, hr, hxf⟩ := h.rests (by simp [hx, inFrame]) (by simp [hx])
    exact State.Rests.goto ⟨hc, hr, hxf⟩ (fits_idle _)
  | refuses c hx =>
    obtain ⟨hc, hr, hxf⟩ := h.rests (by simp [hx, inFrame]) (by simp [hx])
    exact respond_inv (s := { s with offered := s.offered.tail }) ⟨hc, hr, hxf⟩ _ _
  | admits w i hx hd =>
    obtain ⟨hc, hr, hxf⟩ := h.rests (by simp [hx, inFrame]) (by simp [hx])
    exact accept_inv ⟨hc, hr, hxf⟩ (decodeRequest_ok hd).1 (decodeRequest_ok hd).2
  | selects hf hp =>
    exact { h with
      cs := by simp, fposFrame := fun _ => hf, abort := fun ha => absurd ha (h.not_aborting (by simp [hp])) }
  | receivesFirst tx r r0 hf hp =>
    have hab := h.not_aborting (by simp [hp])
    exact exchange_inv h hf (by simp [hp]) (p := .b1) (by simp) (fun ha => absurd ha hab) r0 _ _
  | receivesSecond tx r r1 hf hp =>
    have hab := h.not_aborting (by simp [hp])
    exact exchange_inv h hf (by simp [hp]) (p := .csOff) (by simp) (fun ha => absurd ha hab) _ r1 _
  | fails tx hf hp hr =>
    have hs : s.fpos ≠ .csOn := by obtain hp | hp := hp <;> simp [hp]
    exact exchange_inv h hf hs (p := .csOff) (by simp) (fun _ => ⟨rfl, hr⟩) _ _ _
  | faults hf hp hab => exact transportFault_inv h hf hab
  | completes hf hp hab => exact csDeassert_inv h hf
  | waits e hx =>
    exact { h with waiting := fun _ => hx.imp_right And.right }
  | resumes hx =>
    obtain ⟨hc, hr, hxf⟩ := h.rests (inFrame_of_inWait hx) (inWait_ne hx).2.2.1
    obtain ⟨ho, hoff, hbp, hp, hk, hport⟩ := h.fits
    exact afterStall_inv hx ⟨hc, hr, hxf⟩ ⟨ho, hoff, hbp, hp, hk, hport⟩
  | pulses hx hp => exact { h with rst := by simp, rposRst := fun _ => hx, waiting := fun _ => .inr rfl }
  | elapses hx hp =>
    exact { h with rst := by simpa [hp] using h.rst, rposRst := fun _ => hx, waiting := by simp }
  | releases hx hp =>
    have hc := h.csLine_of_csOn (h.fposCsOn (by simp [hx, inFrame]))
    have ho := h.op
    exact State.Rests.goto ⟨hc, rfl, h.xfault⟩ (fits_of_not_inAccess rfl (by simp) (by simp_all [opFits]))
  | responds hx => exact respond_inv (h.rests (by simp [hx, inFrame]) (by simp [hx])) _ _

theorem tick_inv {s : State} (h : s.Inv) : (tick s).Inv := (tick_acted s).inv h.hostTurn

theorem BusyRun.inv {s t : State} (hr : BusyRun s t) (h : s.Inv) : t.Inv := hr.keeps (fun _ hu _ => tick_inv hu) h

end Sys2Proof.Machine
end

section
/-! SUPPORT. The statements about every tick and every step (R21, R22, R26, R30, R31), from what one event can do and
from the step as a run. -/

namespace Sys2Proof.Machine

/-! ### The invariant and the ticks -/

/-- Settles O22: every kind of event keeps the invariant, and a step is a run of ticks. -/
theorem everyStepKeepsTheSequencerInvariant : Obligations.EveryStepKeepsTheSequencerInvariant := by
  intro s h
  refine ⟨tick_inv h, fun t ht => ?_⟩
  obtain ⟨-, hr⟩ | hr := step_next_run ht
  · exact hr.inv h
  · exact hr.inv (tick_inv h)

/-- Settles O21. -/
theorem referenceStateSatisfiesTheInvariant : Obligations.ReferenceStateSatisfiesTheInvariant :=
  fun cfg => State.Rests.goto (s := State.initial cfg) ⟨rfl, rfl, by simp [State.initial]⟩ (fits_idle _)

/-- Settles O17: a step is a run of ticks, or one tick and such a run. -/
theorem everyStepIsASequenceOfTicks : Obligations.EveryStepIsASequenceOfTicks := by
  intro s t ht
  obtain ⟨-, hr⟩ | hr := step_next_run ht
  · exact hr.iterate
  · obtain ⟨n, e⟩ := hr.iterate
    exact ⟨n + 1, by rw [e, Function.iterate_succ_apply]⟩

/-- Settles O16. -/
theorem tickEmitsAtMostOneEvent : Obligations.TickEmitsAtMostOneEvent := by
  intro s
  obtain e | ⟨b, e⟩ := (tick_acted s).bus
  · exact ⟨[], by simp, by simpa using e⟩
  · exact ⟨[b], by simp, by simpa using e⟩

/-- What every tick keeps, every step keeps. -/
theorem step_keeps {P : State → Prop} (h : ∀ u, P u → P (tick u)) {s t : State} (hs : P s) (ht : step s = .next t) :
    P t := by
  obtain ⟨-, hr⟩ | hr := step_next_run ht
  · exact hr.keeps (fun u hu _ => h u hu) hs
  · exact hr.keeps (fun u hu _ => h u hu) (h s hs)

theorem step_cfg {s t : State} (ht : step s = .next t) : t.cfg = s.cfg :=
  step_keeps (P := fun u => u.cfg = s.cfg) (fun _ hu => (tick_cfg _).trans hu) rfl ht

theorem step_bus {s t : State} (ht : step s = .next t) : s.bus <+: t.bus := by
  refine step_keeps (P := fun u => s.bus <+: u.bus) (fun u hu => ?_) ⟨[], by simp⟩ ht
  obtain ⟨l, -, e⟩ := tickEmitsAtMostOneEvent u
  exact hu.trans ⟨l, e.symm⟩

/-! ### Responses -/

/-- What is handed over from `s` to `t`: nothing, with `xfault` as it was, or one response that carries `xfault` as `t`
has it and leaves the block idle, and only with `FLT_TRANSPORT` is the flag set (R26, R74, R143). -/
inductive Handed (s t : State) : Prop where
  | nothing : t.responses = s.responses → t.xfault = s.xfault → Handed s t
  | response (st : Status) (p : Payload) : t.fsm = .idle → t.responses = s.responses ++ [⟨st, xfaultOut t, p⟩] →
      t.xfault = s.xfault ∨ st = .fltTransport ∧ t.xfault = true → Handed s t

theorem Acted.handed {s t : State} (h : Acted s t) : Handed s t := by
  cases h with
  | refuses c => exact .response (.refused c) .none rfl rfl (.inl rfl)
  | faults => exact .response .fltTransport .none rfl rfl (.inr ⟨rfl, rfl⟩)
  | responds => exact .response .ok _ rfl rfl (.inl rfl)
  | _ => exact .nothing (by simp) (by simp)

theorem tick_handed (s : State) : Handed s (tick s) := by
  obtain ⟨hr, hx⟩ | ⟨st, p, hi, hr, hx⟩ := (tick_acted s).handed
  · exact .nothing (by simpa using hr) (by simpa using hx)
  · exact .response st p hi (by simpa using hr) (by simpa using hx)

/-- A run ends with the first response it hands over. -/
theorem BusyRun.handed {s u t : State} (hr : BusyRun u t) (h : Handed s u) : Handed s t := by
  refine hr.keeps (P := Handed s) (fun v hv hb => ?_) h
  obtain ⟨e, ex⟩ | ⟨st, p, hi, -, -⟩ := hv
  · obtain ⟨hr, hx⟩ | ⟨st, p, hi, hr, hx⟩ := tick_handed v
    · exact .nothing (hr.trans e) (hx.trans ex)
    · exact .response st p hi (by rw [hr, e]) (by rwa [ex] at hx)
  · exact absurd hi hb

theorem step_handed {s t : State} (ht : step s = .next t) : Handed s t := by
  obtain ⟨-, hr⟩ | hr := step_next_run ht
  · exact hr.handed (.nothing rfl rfl)
  · exact hr.handed (tick_handed s)

/-- Settles O19. -/
theorem responsesAndBusOnlyGrow : Obligations.ResponsesAndBusOnlyGrow := by
  intro s t ht
  obtain ⟨l, e⟩ := step_bus ht
  refine ⟨?_, l, e.symm⟩
  obtain ⟨hr, -⟩ | ⟨st, p, -, hr, -⟩ := step_handed ht
  · exact ⟨[], by simp, by simpa using hr⟩
  · exact ⟨_, by simp, hr⟩

/-- The responses a step hands over carry `xfault` as the step leaves it, where it exists (R74). -/
theorem Handed.xfaultOut {s t : State} (h : Handed s t) :
    ∃ l : List Response, t.responses = s.responses ++ l ∧ ∀ r ∈ l, r.xfault = xfaultOut t := by
  obtain ⟨hr, -⟩ | ⟨st, p, -, hr, -⟩ := h
  · exact ⟨[], by simpa using hr, by simp⟩
  · exact ⟨_, hr, by simp⟩

/-- Settles O20: without reporting the invariant, kept by the step, says that the flag is clear before and after. -/
theorem xfaultIsSticky : Obligations.XfaultIsSticky := by
  intro s t ht
  have hc := step_cfg ht
  have h := step_handed ht
  refine ⟨fun hs => ?_, fun hs htx => ?_, fun hrep => ?_, fun hinv hrep => ?_⟩
  · obtain ⟨-, hx⟩ | ⟨st, p, -, -, hx | ⟨-, hx⟩⟩ := h <;> simp [hx, hs]
  · obtain ⟨-, hx⟩ | ⟨st, p, -, hr, hx | ⟨rfl, -⟩⟩ := h
    · simp [hx, hs] at htx
    · simp [hx, hs] at htx
    · exact ⟨_, hr, rfl⟩
  · obtain ⟨l, hl, hx⟩ := h.xfaultOut
    exact ⟨l, hl, fun r hr => by simp [hx r hr, Machine.xfaultOut, hc, hrep]⟩
  · have clear : ∀ u : State, u.Inv → u.cfg = s.cfg → u.xfault = false := by
      intro u hu hcu
      by_contra hx
      simp [hu.xfault (by simpa using hx), ← hcu] at hrep
    obtain ⟨l, hl, hx⟩ := h.xfaultOut
    refine ⟨?_, l, hl, fun r hr => by simp [hx r hr, Machine.xfaultOut, hc, hrep]⟩
    rw [clear s hinv rfl, clear t ((everyStepKeepsTheSequencerInvariant s hinv).2 t ht) hc]

/-! ### The port -/

/-- Settles O23: a busy block offers the request at its port, and a run past `S_CHECK` keeps the port. -/
theorem busyBlockTakesNoRequest : Obligations.BusyBlockTakesNoRequest := by
  refine ⟨fun i s hi hs => ?_, fun s t hi hc ht => ?_⟩
  · rw [exec_of_busy hi hs, offer]
  · obtain ⟨-, hr⟩ | hr := step_next_run ht
    · exact (hr.inFlight hc).2.offered
    · exact (hr.inFlight (tick_ne_check hi hc)).2.offered.trans (tick_latches hc).offered

/-! ### The host's turn and the device's page -/

/-- Settles O26: the host's turn comes before the event, and no event ends the window. -/
theorem recoveredEndsTheWindow : Obligations.RecoveredEndsTheWindow := by
  refine ⟨fun s rest h => ?_, fun s => ?_, fun s hd ht => ?_⟩
  · have e : hostTurn s = hostTurn { s with host := .quiet :: rest, devRecovering := false } := by simp [hostTurn, h]
    rw [tick, e, tick]
  · rw [(tick_acted s).host, hostTurn_host]
  · have hw : (hostTurn s).devRecovering = false := by
      by_contra hw
      simp [(tick_acted s).devRecovering (by simpa using hw)] at ht
    rw [hostTurn_devRecovering, hd, Bool.true_and] at hw
    cases hh : s.host with
    | nil => simp [hh] at hw
    | cons a l => cases a with
      | quiet => exact absurd hw (by simp [hh])
      | recovered => exact ⟨l, rfl⟩

/-- The window after the host's turn is closed exactly if it was, or the turn is `RECOVERED` (R33). -/
theorem hostTurn_window (s : State) :
    (hostTurn s).devRecovering = true ↔ s.devRecovering = true ∧ s.host.head? ≠ some .recovered := by
  rw [hostTurn_devRecovering]; simp

/-- The end of a frame, as a tick (R28, R143). -/
theorem tick_csOff {s : State} (hf : inFrame s.fsm = true) (hp : s.fpos = .csOff) :
    tick s = if s.aborting then transportFault (hostTurn s)
      else csDeassert s.fsm (frameBytes s).1 (frameBytes s).2 (hostTurn s) := by
  rw [tick_of_inFrame hf, frameAct]
  simp [hp]

/-- Settles O28. -/
theorem devicePageFollowsTheFrames : Obligations.DevicePageFollowsTheFrames := by
  refine ⟨fun s hf hp ha hw => ?_, fun s hf hp hw => ?_, fun s hf hr => ?_⟩
  · have hd : (hostTurn s).devRecovering = false := by
      by_contra h
      obtain ⟨h1, h2⟩ := (hostTurn_window s).1 (by simpa using h)
      obtain hw | hw := hw
      · simp [hw] at h1
      · exact h2 hw
    have e : (tick s).devPage = latchedPage (frameBytes s).1 (frameBytes s).2 (hostTurn s) := by
      rw [tick_csOff hf hp, ha]; rfl
    rw [e, latchedPage, hd]
    refine ⟨fun h => by simp [h], fun h => ⟨s.pageDraws, by simp [h]⟩, fun h0 h1 => ?_⟩
    simp only [h0, h1, if_false, hostTurn_devPage, Bool.false_eq_true]
  · rw [tick_csOff hf hp]
    cases ha : s.aborting with
    | true => exact ⟨_, rfl⟩
    | false =>
      have hd := (hostTurn_window s).2 (hw.resolve_left (by simp [ha]))
      exact ⟨s.pageDraws, by simp [latchedPage, hd]⟩
  · rw [(tick_acted s).devPage (by simpa using hf) (by simpa using hr), hostTurn_devPage]

/-! ### Initialization, and what a step fetches -/

/-- Settles O10. -/
theorem blockInitialization : Obligations.BlockInitialization := by
  intro cfg
  refine ⟨rfl, rfl, rfl, rfl, rfl, rfl, rfl, rfl, ?_, ?_⟩
  · simp [csPin, State.initial]
  · simp [rstPin, State.initial]

/-- Settles O14. -/
theorem stepRunsTheDecodedInstruction : Obligations.StepRunsTheDecodedInstruction := by
  refine ⟨fun s f i hf hd => ?_, fun s w rest hi ho => ?_, fun s k hx hp ha hk => ?_⟩
  · rw [step_of_fetch hf, runFetched_ok hd]
  · exact ⟨fetch_request hi ho, by simp [taken, ho]⟩
  · have hf := (fetch_of_busy (inFrame_ne hx).1).trans (fetchFrame_eq hp ha hk)
    refine ⟨hf, fun f h => ?_⟩
    obtain rfl := Option.some.inj (hf.symm.trans h)
    rfl

/-- At the start of a frame that decodes, the step is the frame's meaning (R66). -/
theorem step_at_frame {s : State} {k : FrameKind} {i : Instr} (hp : s.fpos = .csOn) (ha : s.aborting = false)
    (hk : frameKindAt s = some k) (hd : decodeFrame k (frameWord (frameBytes s).1 (frameBytes s).2) = some i) :
    step s = exec i s := by
  have hi : s.fsm ≠ .idle := fun h => by simp [frameKindAt, h] at hk
  rw [step_of_fetch ((fetch_of_busy hi).trans (fetchFrame_eq hp ha hk)), runFetched_ok (decode_frame_of_some hd), taken]

@[simp] theorem lowByte_append (hi lo : Byte) : lowByte (hi ++ lo) = lo := by
  rw [lowByte, BitVec.extractLsb'_append_eq_of_add_le (by omega)]; simp

@[simp] theorem highByte_append (hi lo : Byte) : highByte (hi ++ lo) = hi := by
  rw [highByte, BitVec.extractLsb'_append_eq_of_le (by omega)]; simp

/-- The address byte of a low-byte frame: `W` set, even, and the offset back (R68). -/
theorem wloB0_bits (off : Byte) : admittedOff off = true →
    (wloB0 off).getLsbD 7 = true ∧ (wloB0 off).getLsbD 0 = false ∧ wloB0 off &&& 0x7E = off := by
  revert off; decide

/-- The address byte of a high-byte frame: `W` set, odd, and the offset back (R68). -/
theorem whiB0_bits (off : Byte) : admittedOff off = true →
    (whiB0 off).getLsbD 7 = true ∧ (whiB0 off).getLsbD 0 = true ∧ whiB0 off &&& 0x7E = off := by
  revert off; decide

theorem masked_admitted (b : Byte) : admittedOff (b &&& 0x7E) = true := by
  revert b; decide

/-- The frames a bare word is read as, with the operands they can have (log 8). -/
inductive BareFrame : Instr → Prop where
  | psel (page : Byte) : BareFrame (.psel page)
  | raddr (off : Byte) : admittedOff off = true → BareFrame (.raddr off)
  | rdata : BareFrame .rdata
  | wlo (off lo : Byte) : admittedOff off = true → BareFrame (.wlo off lo)
  | whi (off hi : Byte) : admittedOff off = true → BareFrame (.whi off hi)

theorem decodeFrame_bareFrame {k : FrameKind} {w : FrameWord} {i : Instr} (hq : k ≠ .breq) (he : k ≠ .bend)
    (h : decodeFrame k w = some i) : BareFrame i := by
  cases k with
  | psel => simp only [decodeFrame] at h; split at h <;> cases h; exact .psel _
  | raddr =>
    simp only [decodeFrame] at h; split at h <;> cases h
    next hr => exact .raddr _ (by simp_all [readFrame])
  | rdata => simp only [decodeFrame] at h; split at h <;> cases h; exact .rdata
  | wlo => simp only [decodeFrame] at h; split at h <;> cases h; exact .wlo _ _ (masked_admitted _)
  | whi => simp only [decodeFrame] at h; split at h <;> cases h; exact .whi _ _ (masked_admitted _)
  | breq => exact absurd rfl hq
  | bend => exact absurd rfl he

theorem bareFrameKind_ne (w : FrameWord) : bareFrameKind w ≠ .breq ∧ bareFrameKind w ≠ .bend := by
  unfold bareFrameKind
  split
  · simp
  split
  · simp
  split
  · simp
  split <;> simp

/-- A frame read from a bare word runs next where it is placed (log 22). -/
theorem step_placeFrame {i : Instr} (h : BareFrame i) (s : State) :
    step (placeFrame i s) = exec i (placeFrame i s) := by
  cases h with
  | psel page => exact step_at_frame (k := .psel) rfl rfl rfl (by simp [decodeFrame, frameBytes, placeFrame])
  | raddr off ho =>
    exact step_at_frame (k := .raddr) rfl rfl rfl (by simp [decodeFrame, readFrame, frameBytes, placeFrame, ho])
  | rdata => exact step_at_frame (k := .rdata) rfl rfl rfl (by rw [frameBytes_rdata rfl]; decide)
  | wlo off lo ho =>
    obtain ⟨h7, h0, hm⟩ := wloB0_bits off ho
    refine step_at_frame (k := .wlo) rfl rfl rfl ?_
    rw [frameBytes_wlo rfl]
    simp only [decodeFrame, writeFlag, oddOff, frameB0_frameWord, frameB1_frameWord, placeFrame, goto, h7, h0, hm]
    simp
  | whi off hi ho =>
    obtain ⟨h7, h0, hm⟩ := whiB0_bits off ho
    refine step_at_frame (k := .whi) rfl rfl rfl ?_
    rw [frameBytes_whi rfl]
    simp only [decodeFrame, writeFlag, oddOff, frameB0_frameWord, frameB1_frameWord, placeFrame, goto, h7, h0, hm]
    simp

theorem breakSelect_offered (s : State) : (breakSelect s).offered = s.offered := by
  unfold breakSelect; split <;> rfl

theorem breakSelect_of_pending {s : State} (h : s.fsm = .psel ∨ s.fsm = .pselWait) :
    breakSelect s = { s with devPage := Config.pageDraw s.pageDraws, pageDraws := s.pageDraws + 1 } := by
  rw [breakSelect, if_pos (by obtain h | h := h <;> simp [selectPending, h])]

theorem breakSelect_of_ne {s : State} (h : s.fsm ≠ .psel) (h' : s.fsm ≠ .pselWait) : breakSelect s = s := by
  rw [breakSelect, if_neg (by simp [selectPending, h, h'])]

/-- A request that decodes runs next where it is put at the head of the port (log 22). -/
theorem step_offerFirst {w : ReqWord} {i : Instr} (hd : decodeRequest w = .ok i) (s : State) :
    step (offerFirst w s) = exec i { breakSelect s with fsm := .idle } := by
  rw [step_of_fetch (f := .request w) (fetch_request rfl rfl), runFetched_ok (f := .request w) hd]
  congr 1
  simp [taken, offerFirst, breakSelect_offered]

/-- Settles O15. -/
theorem placedTableWordRunsNext : Obligations.PlacedTableWordRunsNext := by
  refine ⟨fun s w i h => ?_, fun s w i h => ?_, fun s => breakSelect_of_pending, fun s => breakSelect_of_ne⟩
  · refine step_offerFirst ?_ s
    cases hd : decodeRequest (BitVec.ofNat 40 w) <;> simp_all [decodeTableWord, Except.toOption]
  · have hb : decodeFrame (bareFrameKind (BitVec.ofNat 16 w)) (BitVec.ofNat 16 w) = some i := by
      simpa [decodeTableWord] using h
    have e : s.withFetchWord 16 w = placeFrame i s := by simp [State.withFetchWord, placeTableWord, h]
    rw [e]
    exact step_placeFrame (decodeFrame_bareFrame (bareFrameKind_ne _).1 (bareFrameKind_ne _).2 hb) s

end Sys2Proof.Machine
end

section
/-! SUPPORT. One bus frame as an operation (R66): where it starts, the bytes it receives, and the page the device is
left on (R28, R165; log 7). -/

namespace Sys2Proof.Machine

/-! ### The bytes received -/

/-- The byte listed for the `k`-th exchange; zero where no byte is listed. -/
def listedByte (l : List XferAnswer) (k : Nat) : Byte :=
  match l[k]? with
  | some (.byte b) => b
  | _ => 0x00

/-- The bytes received from `s` when the first two exchanges return `r0` and `r1`. -/
def received (r0 r1 : Byte) (s : State) : Nat → Byte
  | 0 => r0
  | 1 => r1
  | k + 2 => listedByte s.xport (k + 2)

theorem receives_received {r0 r1 : Byte} {s : State}
    (h0 : s.devRecovering = false → ∀ b, s.xport[0]? = some (.byte b) → r0 = b)
    (h1 : s.devRecovering = false → ∀ b, s.xport[1]? = some (.byte b) → r1 = b) : s.Receives (received r0 r1 s) := by
  intro hd k b hb
  match k with
  | 0 => exact h0 hd b hb
  | 1 => exact h1 hd b hb
  | k + 2 => simp [received, listedByte, hb]

/-! ### Where a frame starts -/

/-- All that breaking off a page select does (R165). -/
theorem breakSelect_eq (s : State) :
    breakSelect s = { s with devPage := (breakSelect s).devPage, pageDraws := (breakSelect s).pageDraws } := by
  unfold breakSelect; split <;> rfl

theorem atFrame_iff {x : Fsm} {s : State} : atFrame x s = true ↔ s.fsm = x ∧ s.fpos = .csOn ∧ s.aborting = false := by
  simp [atFrame, and_assoc]

/-- The frame of position `x` is about to start in `u`, with the agents as they are in `s`. -/
structure Starts (x : Fsm) (s u : State) : Prop where
  fsm : u.fsm = x
  fpos : u.fpos = .csOn
  aborting : u.aborting = false
  cfg : u.cfg = s.cfg
  xport : u.xport = s.xport
  timer : u.timer = s.timer
  devRecovering : u.devRecovering = s.devRecovering

/-- Where the position calls for the frame it starts as it is, else placed (log 7). -/
theorem startFrame_starts {x : Fsm} {i : Instr} {s : State} (h : Starts x s (placeFrame i s)) :
    Starts x s (startFrame (atFrame x s) i s) := by
  unfold startFrame
  split
  · obtain ⟨hx, hp, ha⟩ := atFrame_iff.1 ‹_›
    exact ⟨hx, hp, ha, rfl, rfl, rfl, rfl⟩
  · exact h

theorem placeFrame_psel_starts (page : Byte) (s : State) : Starts .psel s (placeFrame (.psel page) s) := by
  rw [placeFrame, breakSelect_eq]; exact ⟨rfl, rfl, rfl, rfl, rfl, rfl, rfl⟩

theorem placeFrame_wlo_starts (off lo : Byte) (s : State) : Starts .wlo s (placeFrame (.wlo off lo) s) := by
  rw [placeFrame, breakSelect_eq]; exact ⟨rfl, rfl, rfl, rfl, rfl, rfl, rfl⟩

theorem placeFrame_whi_starts (off hi : Byte) (s : State) : Starts .whi s (placeFrame (.whi off hi) s) := by
  rw [placeFrame, breakSelect_eq]; exact ⟨rfl, rfl, rfl, rfl, rfl, rfl, rfl⟩

/-- A frame that has been started completes, with some two bytes (R83, R164). -/
theorem Starts.framePhase {x : Fsm} {b0 b1 : Byte} {s u : State} (h : Starts x s u) (hr : s.Responsive)
    (he : s.NoReportedError) :
    ∃ r0 r1, framePhase x b0 b1 u = afterStall (stallOf x) (framed x b0 b1 r0 r1 u) ∧
      s.Receives (received r0 r1 s) := by
  obtain ⟨r0, r1, e, l0, l1⟩ := framePhase_responsive (b0 := b0) (b1 := b1) h.fsm h.fpos h.aborting
    (hr.of_drop 0 0 h.xport h.timer) (he.of_drop 0 h.cfg h.xport)
  rw [h.devRecovering, h.xport] at l0 l1
  exact ⟨r0, r1, e, receives_received l0 l1⟩

/-! ### The device's page after a frame -/

/-- Outside the recovery window (R28). -/
theorem latchedPage_turns {b0 b1 : Byte} {s : State} (n : Nat) (h : s.devRecovering = false) :
    latchedPage b0 b1 (turns n s) =
      if b0 = 0x80 then b1 else if b0 = 0x81 then Config.pageDraw s.pageDraws else s.devPage := by
  rw [latchedPage, turns_devRecovering_false n h, turns_eq n s]; rfl

/-- Placing an access frame leaves the device's page, or opens it where it breaks off a page select (R165). -/
theorem startFrame_devPage {x : Fsm} {i : Instr} {s : State} (hx : x ≠ .psel) (hw : x ≠ .pselWait)
    (hi : (placeFrame i s).devPage = (breakSelect s).devPage) :
    let u := startFrame (atFrame x s) i s
    (s.fsm ≠ .psel → s.fsm ≠ .pselWait → u.devPage = s.devPage) ∧
    (s.fsm = .psel ∨ s.fsm = .pselWait → ∃ d : Nat, u.devPage = Config.pageDraw d) := by
  unfold startFrame
  split
  · obtain ⟨rfl, -, -⟩ := atFrame_iff.1 ‹_›
    exact ⟨fun _ _ => rfl, fun h => (h.elim hx hw).elim⟩
  · exact ⟨fun h h' => by rw [hi, breakSelect_of_ne h h'],
      fun h => ⟨s.pageDraws, by rw [hi, breakSelect_of_pending h]⟩⟩

/-- Only the low-byte frame for offset 0 is a page select, and none leaves the page open (R28, R68). -/
theorem wloB0_select (off : Byte) : admittedOff off = true → (wloB0 off = 0x80 ↔ off = 0x00) ∧ wloB0 off ≠ 0x81 := by
  revert off; decide

/-- No high-byte frame is a page select, and only the one for offset 0 leaves the page open (R28, R68). -/
theorem whiB0_select (off : Byte) : admittedOff off = true → (whiB0 off = 0x81 ↔ off = 0x00) ∧ whiB0 off ≠ 0x80 := by
  revert off; decide

/-! ### The frames as operations -/

/-- Settles O37: the frame is started, as it is or placed, and completes. -/
theorem pageSelectFrameSelects : Obligations.PageSelectFrameSelects := by
  intro s page hr he
  have hs := startFrame_starts (placeFrame_psel_starts page s)
  obtain ⟨r0, r1, e, hrx⟩ := hs.framePhase (b0 := 0x80) (b1 := page) hr he
  refine ⟨received r0 r1 s, _, by rw [exec, execPsel, e], hrx, ?_, fun hd => ?_⟩
  · unfold startFrame
    cases h : atFrame .psel s with
    | true => simp [framed, afterStall, stallOf, goto, captures, stallUs, received]
    | false =>
      rw [placeFrame, breakSelect_eq]
      simp [framed, afterStall, stallOf, goto, captures, stallUs, received]
  · have hu := hs.devRecovering.trans hd
    refine ⟨turns_devRecovering_false 6 hu, ?_⟩
    simp [stallOf, afterStall, framed, latchedPage_turns 4 hu]

/-- Settles O39: each frame is started, as it is or placed, and completes; its address byte says what it does to the
device's page. -/
theorem writeFramesSendTheirByte : Obligations.WriteFramesSendTheirByte := by
  intro s off b hr he ho
  constructor
  · have hs := startFrame_starts (placeFrame_wlo_starts off b s)
    obtain ⟨r0, r1, e, hrx⟩ := hs.framePhase (b0 := wloB0 off) (b1 := b) hr he
    refine ⟨received r0 r1 s, _, by rw [exec, execWlo, e], hrx, ?_, fun hd => ?_⟩
    · unfold startFrame
      cases h : atFrame .wlo s with
      | true => simp [framed, afterStall, stallOf, goto, captures, stallUs, received, wloB0]
      | false =>
        rw [placeFrame, breakSelect_eq]
        simp [framed, afterStall, stallOf, goto, captures, stallUs, received, wloB0]
    · have hu := hs.devRecovering.trans hd
      obtain ⟨h80, h81⟩ := wloB0_select off ho
      obtain ⟨keeps, opens⟩ := startFrame_devPage (x := .wlo) (i := .wlo off b) (s := s) (by simp) (by simp) rfl
      simp only [stallOf, afterStall, goto, framed, latchedPage_turns 4 hu, h80, h81, if_false]
      refine ⟨turns_devRecovering_false 6 hu, fun h => if_pos h, fun h hx hw => ?_, fun h hx => ?_⟩
      · rw [if_neg h, keeps hx hw]
      · rw [if_neg h]; exact opens hx
  · have hs := startFrame_starts (placeFrame_whi_starts off b s)
    obtain ⟨r0, r1, e, hrx⟩ := hs.framePhase (b0 := whiB0 off) (b1 := b) hr he
    refine ⟨received r0 r1 s, _, by rw [exec, execWhi, e], hrx, ?_, fun hd => ?_⟩
    · unfold startFrame
      cases h : atFrame .whi s with
      | true => simp [framed, afterStall, stallOf, goto, captures, stallUs, received, whiB0]
      | false =>
        rw [placeFrame, breakSelect_eq]
        simp [framed, afterStall, stallOf, goto, captures, stallUs, received, whiB0]
    · have hu := hs.devRecovering.trans hd
      obtain ⟨h81, h80⟩ := whiB0_select off ho
      obtain ⟨keeps, opens⟩ := startFrame_devPage (x := .whi) (i := .whi off b) (s := s) (by simp) (by simp) rfl
      simp only [stallOf, afterStall, goto, framed, latchedPage_turns 4 hu, h80, h81, if_false]
      refine ⟨turns_devRecovering_false 6 hu, fun h hx hw => ?_, fun h => ?_⟩
      · rw [if_neg h, keeps hx hw]
      · by_cases h0 : off = 0x00
        · exact ⟨_, if_pos h0⟩
        · rw [if_neg h0]; exact opens (h.resolve_left h0)

end Sys2Proof.Machine
end

section
/-! SUPPORT. Whole accesses and the page cache (R28, R58), and READ_REG in the recovery window (R33). -/

namespace Sys2Proof.Machine

/-! ### The page cache under accesses -/

theorem byte_admitted (o : BurstOffset) : admittedOff o.byte = true := by
  simp only [admittedOff, BurstOffset.byte, BitVec.getLsbD_append]
  simp

/-- Every burst frame is a read request (R66, R105). -/
theorem burstTx_admitted (c : BurstConfig) (bk : Nat) : admittedOff (burstTx c bk) = true := by
  unfold burstTx; split <;> exact byte_admitted _

/-- A read request is no write to the page-select register (R28). -/
theorem admitted_ne_select (b : Byte) : admittedOff b = true → b ≠ 0x80 ∧ b ≠ 0x81 := by
  revert b; decide

theorem opFits_stallOf {x : Fsm} {op : BitVec 4} (hx : inFrame x = true) (h : opFits x op = true) :
    opFits (stallOf x) op = true := by
  cases x <;> simp_all [inFrame, opFits, stallOf]

theorem opFits_afterStall {x : Fsm} {s : State} (hx : inWait x = true) (h : opFits x s.reqOp = true) :
    opFits (afterStall x s).fsm s.reqOp = true := by
  cases x with
  | pselWait =>
    obtain e | e | e : s.reqOp = 0x0 ∨ s.reqOp = 0x1 ∨ s.reqOp = 0x2 := by simpa [opFits, or_assoc] using h
    all_goals rw [afterStall, e]; rfl
  | bcapWait =>
    obtain ⟨-, e⟩ | ⟨-, e⟩ := nextCapture_cases (captureBurst s) <;> rw [afterStall, e] <;> simp_all [opFits]
  | raddrWait | rdataWait | wloWait | whiWait | bprimeWait => simp_all [opFits, afterStall]
  | _ => cases hx

theorem afterStall_aborting {x : Fsm} (s : State) (hx : inWait x = true) : (afterStall x s).aborting = false := by
  cases x with
  | bcapWait => obtain ⟨-, e⟩ | ⟨-, e⟩ := nextCapture_cases (captureBurst s) <;> rw [afterStall, e] <;> rfl
  | pselWait | raddrWait | rdataWait | wloWait | whiWait | bprimeWait => rfl
  | _ => cases hx

/-- A register access or a burst in flight, or ended, that does not write the page-select register, on a block whose
page cache agrees with the device; no exchange is reported as failed (R28, R53). -/
structure Accessing (s : State) : Prop where
  silent : s.cfg.xportErrReporting = false
  aborting : s.aborting = false
  notCheck : s.fsm ≠ .check
  fits : opFits s.fsm s.reqOp = true
  op : s.reqOp = 0x0 ∨ s.reqOp = 0x1 ∨ s.reqOp = 0x2
  off : admittedOff s.reqOff = true
  write : s.reqOp = 0x1 → s.reqOff ≠ 0x00
  page : s.PageConsistent

theorem Accessing.ne_rst {s : State} (h : Accessing s) : s.fsm ≠ .rst := by
  intro hx
  have hf := h.fits
  obtain e | e | e := h.op <;> simp [hx, e, opFits] at hf

/-- Only the page-select frame of such an access speaks to the page-select register (R28, R68). -/
theorem Accessing.frameBytes {s : State} (h : Accessing s) (hf : inFrame s.fsm = true) (hx : s.fsm ≠ .psel) :
    (frameBytes s).1 ≠ 0x80 ∧ (frameBytes s).1 ≠ 0x81 := by
  have hfit := h.fits
  cases e : s.fsm with
  | psel => exact absurd e hx
  | raddr => rw [frameBytes_raddr e]; exact admitted_ne_select _ h.off
  | rdata => rw [frameBytes_rdata e]; decide
  | wlo =>
    obtain ⟨h80, h81⟩ := wloB0_select _ h.off
    rw [frameBytes_wlo e]
    exact ⟨fun h0 => h.write (by simpa [e, opFits] using hfit) (h80.1 h0), h81⟩
  | whi =>
    obtain ⟨h81, h80⟩ := whiB0_select _ h.off
    rw [frameBytes_whi e]
    exact ⟨h80, fun h0 => h.write (by simpa [e, opFits] using hfit) (h81.1 h0)⟩
  | bprime => rw [frameBytes_bprime e]; exact admitted_ne_select _ (burstTx_admitted _ _)
  | bcap => rw [frameBytes_bcap e]; exact admitted_ne_select _ (burstTx_admitted _ _)
  | _ => simp [e, inFrame] at hf

/-- A completed frame moves the cache and the device's page together, or neither (R28, R82). -/
theorem Accessing.csDeassert_page {s : State} (h : Accessing s) (hf : inFrame s.fsm = true) :
    (csDeassert s.fsm (Machine.frameBytes s).1 (Machine.frameBytes s).2 s).PageConsistent := by
  obtain ⟨hd, hc⟩ := h.page
  refine ⟨hd, ?_⟩
  by_cases hx : s.fsm = .psel
  · simp [hx, frameBytes_psel hx, latchedPage, hd]
  · obtain ⟨h80, h81⟩ := h.frameBytes hf hx
    simp only [csDeassert_curPage, csDeassert_devPage, if_neg hx, latchedPage, hd, if_neg h80, if_neg h81, hc,
      Bool.false_eq_true, if_false]

theorem Accessing.hostTurn {s : State} (h : Accessing s) : Accessing (hostTurn s) := by
  rw [hostTurn_eq]
  exact ⟨h.silent, h.aborting, h.notCheck, h.fits, h.op, h.off, h.write,
    hostTurn_devRecovering_false h.page.1, h.page.2⟩

/-- Every event of such an access keeps it one. -/
theorem Acted.accessing {s t : State} (ha : Acted s t) (hi : s.fsm ≠ .idle) (h : Accessing s) : Accessing t := by
  cases ha with
  | stays => exact h
  | takes hx => exact absurd hx hi
  | drops hx | refuses _ hx | admits _ _ hx => exact absurd hx h.notCheck
  | fails _ _ _ hr => simp [h.silent] at hr
  | faults _ _ hab => simp [h.aborting] at hab
  | pulses hx | elapses hx | releases hx => exact absurd hx h.ne_rst
  | completes hf =>
    exact ⟨h.silent, rfl, (inWait_ne (inWait_stallOf hf)).2.1, opFits_stallOf hf h.fits, h.op, h.off, h.write,
      h.csDeassert_page hf⟩
  | resumes hx =>
    have hop : opFits (afterStall s.fsm (waited s)).fsm (waited s).reqOp = true := opFits_afterStall hx h.fits
    exact ⟨by simpa using h.silent, afterStall_aborting _ hx, afterStall_ne_check _ hx, by simpa using hop,
      by simpa using h.op, by simpa using h.off, by simpa using h.write, by simpa [State.PageConsistent] using h.page⟩
  | responds => exact ⟨h.silent, rfl, by simp, rfl, h.op, h.off, h.write, h.page⟩
  | selects | receivesFirst | receivesSecond | waits =>
    exact ⟨h.silent, h.aborting, h.notCheck, h.fits, h.op, h.off, h.write, h.page⟩

/-- An admitted access is one, on a consistent block (R80, R101). -/
theorem pageDecision_accessing {first : Fsm} {s : State} (hc : s.cfg.xportErrReporting = false) (hp : s.PageConsistent)
    (hop : s.reqOp = 0x0 ∨ s.reqOp = 0x1 ∨ s.reqOp = 0x2) (hoff : admittedOff s.reqOff = true)
    (hw : s.reqOp = 0x1 → s.reqOff ≠ 0x00) (hx : first ≠ .check) (hf : opFits first s.reqOp = true) :
    Accessing (pageDecision first s) := by
  obtain ⟨-, e⟩ | ⟨-, e⟩ := pageDecision_cases first s <;> rw [e]
  · exact ⟨hc, rfl, hx, hf, hop, hoff, hw, hp⟩
  · exact ⟨hc, rfl, by simp, by simpa [opFits, or_assoc] using hop, hop, hoff, hw, hp⟩

theorem checked_pageConsistent {s : State} (h : s.PageConsistent) : (checked s).PageConsistent := by
  rw [checked_turns, turns_eq]
  exact ⟨turns_devRecovering_false 2 h.1, h.2⟩

/-- Settles O44: an access keeps the cache consistent at every tick, so also where it hangs. -/
theorem accessesKeepThePageCacheConsistent : Obligations.AccessesKeepThePageCacheConsistent := by
  intro s t i hs hp hc hi he
  have hc' : (checked s).cfg.xportErrReporting = false := by simpa [checked] using hc
  obtain ⟨hreq, hw, hacc⟩ :
      i.isRequest = true ∧ i.wellFormed = true ∧ Accessing (accept i (checked s)) := by
    have hp' := checked_pageConsistent hp
    obtain ⟨page, off, rfl, ho⟩ | ⟨page, off, v, rfl, ho, h0⟩ | rfl := hi
    · exact ⟨rfl, ho, pageDecision_accessing hc' hp' (.inl rfl) ho (by simp) (by simp) rfl⟩
    · exact ⟨rfl, ho, pageDecision_accessing hc' hp' (.inr (.inl rfl)) ho (fun _ => h0) (by simp) rfl⟩
    · have ho : admittedOff 0x00 = true := by decide
      exact ⟨rfl, rfl, pageDecision_accessing hc' hp' (.inr (.inr rfl)) ho (by simp) (by simp) rfl⟩
  obtain ⟨u, hu, hr⟩ := exec_request_run hreq hw hs
  obtain rfl : u = t := by rw [hu] at he; injection he
  exact (hr.keeps (P := Accessing) (fun v hv hi => (tick_acted v).accessing (by simpa using hi) hv.hostTurn) hacc).page

/-! ### READ_REG to its end -/

/-- The state after the two frames of READ_REG and its response, from the start of the address frame, with the bytes
received (R84). -/
def readDone (off a b c d : Byte) (u : State) : State :=
  respondResult (goto .resp (captureRdata (framed .rdata 0x00 0x00 c d (goto .rdata (framed .raddr off 0x00 a b u)))))

section
variable (off a b c d : Byte) (u : State)

@[simp] theorem readDone_curPage : (readDone off a b c d u).curPage = u.curPage := by
  rw [readDone, respondResult_of_resp rfl]; simp [framed]

@[simp] theorem readDone_rdata : (readDone off a b c d u).rdata = assembleWord c d := by
  rw [readDone, respondResult_of_resp rfl]; simp [framed, captures, captureRdata]

theorem readDone_responses (h : u.reqOp = 0x0) :
    (readDone off a b c d u).responses = u.responses ++ [⟨.ok, xfaultOut u, .word (assembleWord c d)⟩] := by
  rw [readDone, respondResult_of_resp rfl]; simp [framed, captures, captureRdata, resultPayload, xfaultOut, h]

theorem readDone_devPage : (readDone off a b c d u).devPage =
    latchedPage 0x00 0x00 (turns 4 (goto .rdata (framed .raddr off 0x00 a b u))) := by
  rw [readDone, respondResult_of_resp rfl]; simp [framed]

end

/-- What READ_REG needs at the start of its address frame, in `u`, of the state `s` it was admitted in. -/
structure ReadStart (s u : State) : Prop where
  fsm : u.fsm = .raddr
  fpos : u.fpos = .csOn
  aborting : u.aborting = false
  reqOp : u.reqOp = 0x0
  responsive : u.Responsive
  noError : u.NoReportedError
  responses : u.responses = s.responses
  xfaultOut : xfaultOut u = xfaultOut s

theorem accept_readReg (page off : Byte) (s : State) :
    accept (.readReg page off) s = pageDecision .raddr { s with reqOp := 0x0, reqPage := page, reqOff := off } := rfl

theorem State.Responsive.checked {s : State} (h : s.Responsive) : (checked s).Responsive := h.turns 2

theorem State.NoReportedError.checked {s : State} (h : s.NoReportedError) : (checked s).NoReportedError := h.turns 2

/-- The two frames of READ_REG with agents that answer (R84). -/
theorem ReadStart.readFrames {s u : State} {off : Byte} (h : ReadStart s u) :
    ∃ a b c d, respondResult (framePhase .rdata 0x00 0x00 (framePhase .raddr off 0x00 u)) = readDone off a b c d u := by
  obtain ⟨a, b, e, -, -⟩ :=
    framePhase_responsive (b0 := off) (b1 := 0x00) h.fsm h.fpos h.aborting h.responsive h.noError
  obtain ⟨c, d, e', -, -⟩ := framePhase_responsive (x := .rdata) (b0 := 0x00) (b1 := 0x00)
    (s := goto .rdata (framed .raddr off 0x00 a b u)) rfl rfl rfl (h.responsive.of_drop 2 1 rfl rfl)
    (h.noError.of_drop 2 rfl rfl)
  exact ⟨a, b, c, d, by rw [e]; exact congrArg respondResult e'⟩

/-- Outside the recovery window a completed READ_REG leaves the device's page where its page select put it (R28). -/
theorem readDone_devPage_of_closed {off a b c d : Byte} {u : State} (ho : admittedOff off = true)
    (hd : u.devRecovering = false) : (readDone off a b c d u).devPage = u.devPage := by
  obtain ⟨h80, h81⟩ := admitted_ne_select off ho
  have hv : (goto .rdata (framed .raddr off 0x00 a b u)).devRecovering = false := turns_devRecovering_false 6 hd
  rw [readDone_devPage, latchedPage_turns 4 hv, if_neg (by decide), if_neg (by decide)]
  simp only [goto_devPage, framed, latchedPage_turns 4 hd, if_neg h80, if_neg h81]

/-- The page select of a READ_REG that misses the page: the cache and the device are on it (R28, R58, R82). -/
theorem readStart_miss {s : State} {page : Byte} (hp : s.reqPage = page) (hop : s.reqOp = 0x0) (hr : s.Responsive)
    (he : s.NoReportedError) (hd : s.devRecovering = false) (hq : page ≠ s.curPage) :
    let u := selectPage page (pageDecision .raddr s)
    ReadStart s u ∧ u.curPage = page ∧ u.devPage = page ∧ u.devRecovering = false := by
  obtain ⟨r0, r1, dp, dr, rd, pd, -, -, e, hpage⟩ :=
    select_responsive (first := .raddr) hp (by rw [hop]; rfl) (by simp) (by simp) hr he
  obtain ⟨hdr, hdp⟩ := hpage hd
  rw [if_neg hq] at hdp
  rw [e]
  exact ⟨⟨rfl, rfl, rfl, hop, hr.of_drop _ _ rfl rfl, he.of_drop _ rfl rfl, rfl, rfl⟩, rfl, hdp, hdr⟩

/-- Settles O45: on a page miss the page select sets the cache and the device's page, and the two frames leave them. -/
theorem pageMissResynchronizes : Obligations.PageMissResynchronizes := by
  intro s q off hs hr he hd ho hq
  have hq' : q ≠ (Machine.checked s).curPage := by simpa [Machine.checked] using hq
  obtain ⟨start, hcur, hdev, hrec⟩ := readStart_miss
    (s := { Machine.checked s with reqOp := 0x0, reqPage := q, reqOff := off }) rfl rfl hr.checked he.checked
    (turns_devRecovering_false 2 hd) hq'
  obtain ⟨a, b, c, d, e⟩ := start.readFrames (off := off)
  refine ⟨_, by rw [exec_readReg_of_idle hs ho, runReadReg, accept_readReg, e], ?_, ?_⟩
  · rw [readDone_curPage, hcur]
  · rw [readDone_devPage_of_closed ho hrec, hdev]

/-! ### READ_REG in the recovery window -/

/-- The device is recovering, and the host does not issue `RECOVERED` (R33). -/
def State.InWindow (s : State) : Prop := s.devRecovering = true ∧ ∀ a ∈ s.host, a ≠ HostTurn.recovered

theorem State.InWindow.turns_devRecovering {s : State} (h : s.InWindow) (n : Nat) :
    (turns n s).devRecovering = true := by
  have hc : (s.host.take n).contains .recovered = false := by
    simpa using fun hm => h.2 _ (List.mem_of_mem_take hm) rfl
  rw [Machine.turns_devRecovering, h.1, hc]; rfl

theorem State.InWindow.of_turns {s t : State} (h : s.InWindow) (n : Nat)
    (hd : t.devRecovering = (turns n s).devRecovering) (hh : t.host = s.host.drop n) : t.InWindow :=
  ⟨hd.trans (h.turns_devRecovering n), fun a ha => h.2 a (List.mem_of_mem_drop (hh ▸ ha))⟩

/-- In the window every frame receives free bytes, whatever is listed (R33). -/
theorem framePhase_window {x : Fsm} {b0 b1 : Byte} {s : State} (hx : s.fsm = x) (hp : s.fpos = .csOn)
    (ha : s.aborting = false) (hr : s.Responsive) (he : s.NoReportedError) (hw : s.InWindow) :
    framePhase x b0 b1 s = afterStall (stallOf x)
      (framed x b0 b1 (Config.rxDraw s.rxDraws) (Config.rxDraw (s.rxDraws + 1)) s) := by
  refine framePhase_framed hx hp ha ?_ ?_ (timerEnds_of_responsive hr.2)
  · rw [xferAnswer_recovering (hr.turns 2) (he.turns 2) (hw.turns_devRecovering 2), turns_eq 2]
  · rw [xferAnswer_recovering (hr.turns 3).answered (he.turns 3).answered (by simpa using hw.turns_devRecovering 3),
      answered_rxDraws, turns_eq 3]

/-- In the window a frame leaves the device's page free (R33). -/
theorem latchedPage_window {b0 b1 : Byte} {s : State} (hw : s.InWindow) (n : Nat) :
    latchedPage b0 b1 (turns n s) = Config.pageDraw s.pageDraws := by
  rw [latchedPage, if_pos (hw.turns_devRecovering n), turns_eq]

/-- The page decision of READ_REG and its page select, in the window (R33, R80, R81). -/
theorem readStart_window {s : State} (page : Byte) (hop : s.reqOp = 0x0) (hr : s.Responsive) (he : s.NoReportedError)
    (hw : s.InWindow) :
    let u := selectPage page (pageDecision .raddr s)
    ReadStart s u ∧ u.InWindow := by
  obtain ⟨-, e⟩ | ⟨-, e⟩ := pageDecision_cases .raddr s <;> rw [e, selectPage]
  · rw [framePhase_of_ne (by simp) (by simp [stallOf])]
    exact ⟨⟨rfl, rfl, rfl, hop, hr, he, rfl, rfl⟩, hw⟩
  · have hw' : (goto .psel s).InWindow := hw
    rw [framePhase_window (x := .psel) (s := goto .psel s) rfl rfl rfl hr he hw', stallOf, afterStall]
    exact ⟨⟨by simp [framed, hop, firstState], rfl, rfl, hop, hr.of_drop 2 1 rfl rfl, he.of_drop 2 rfl rfl, rfl, rfl⟩,
      hw'.of_turns 6 rfl rfl⟩

/-- The two frames of READ_REG in the window: the data frame's bytes are free (R33, R84). -/
theorem ReadStart.readFrames_window {s u : State} {off : Byte} (h : ReadStart s u) (hw : u.InWindow) :
    ∃ a b k, respondResult (framePhase .rdata 0x00 0x00 (framePhase .raddr off 0x00 u)) =
      readDone off a b (Config.rxDraw k) (Config.rxDraw (k + 1)) u := by
  have e := framePhase_window (b0 := off) (b1 := 0x00) h.fsm h.fpos h.aborting h.responsive h.noError hw
  refine ⟨Config.rxDraw u.rxDraws, Config.rxDraw (u.rxDraws + 1), u.rxDraws + 2, ?_⟩
  rw [e]
  exact congrArg respondResult (framePhase_window (x := .rdata) rfl rfl rfl (h.responsive.of_drop 2 1 rfl rfl)
    (h.noError.of_drop 2 rfl rfl) (hw.of_turns 6 rfl rfl))

/-- The window stays open to the end of READ_REG (R33). -/
theorem readDone_devRecovering {off a b c d : Byte} {u : State} (hw : u.InWindow) :
    (readDone off a b c d u).devRecovering = true := by
  have hv : (goto .rdata (framed .raddr off 0x00 a b u)).InWindow := hw.of_turns 6 rfl rfl
  have hx : (goto .resp (captureRdata
      (framed .rdata 0x00 0x00 c d (goto .rdata (framed .raddr off 0x00 a b u))))).InWindow := hv.of_turns 6 rfl rfl
  rw [readDone, respondResult_of_resp rfl]
  exact hx.turns_devRecovering 1

/-- In the window READ_REG leaves the device's page free (R33). -/
theorem readDone_devPage_window {off : Byte} {u : State} (hw : u.InWindow) (a b c d : Byte) :
    ∃ n, (readDone off a b c d u).devPage = Config.pageDraw n := by
  have hv : (goto .rdata (framed .raddr off 0x00 a b u)).InWindow := hw.of_turns 6 rfl rfl
  exact ⟨_, (readDone_devPage ..).trans (latchedPage_window hv 4)⟩

theorem State.InWindow.checked {s : State} (h : s.InWindow) : (checked s).InWindow :=
  h.of_turns 2 rfl (by rw [checked_turns, turns_eq])

/-- Settles O48: every frame of the read receives free bytes, and the last one leaves the device's page free. -/
theorem recoveryWindowGivesDraws : Obligations.RecoveryWindowGivesDraws := by
  intro s page off hs hr he ho hd hh
  obtain ⟨start, hw⟩ := readStart_window
    (s := { Machine.checked s with reqOp := 0x0, reqPage := page, reqOff := off }) page rfl hr.checked he.checked
    (State.InWindow.checked ⟨hd, hh⟩)
  obtain ⟨a, b, k, e⟩ := start.readFrames_window (off := off) hw
  obtain ⟨n, hn⟩ := readDone_devPage_window (off := off) hw a b (Config.rxDraw k) (Config.rxDraw (k + 1))
  refine ⟨_, k, k + 1, n, by rw [exec_readReg_of_idle hs ho, runReadReg, accept_readReg, e], ?_, ?_, hn,
    readDone_devRecovering hw⟩
  · rw [readDone_rdata]
  · rw [readDone_responses _ _ _ _ _ _ start.reqOp, start.responses, start.xfaultOut, readDone_rdata]
    simp [Machine.checked, Machine.xfaultOut]

end Sys2Proof.Machine
end

section
/-! SUPPORT. The bits of a byte on the wire (R43), and the offsets a register access refuses (R47, R48). -/

namespace Sys2Proof.Machine

/-! ### The bits of a byte -/

/-- The first `k` bits on the wire are the binary digits of the byte's upper `k` bits (R43). -/
theorem foldl_wireBits (b : Byte) : ∀ k ≤ 8,
    ((List.range k).map fun i => b.getLsbD (7 - i)).foldl (fun n x => 2 * n + x.toNat) 0 = b.toNat / 2 ^ (8 - k)
  | 0, _ => (Nat.div_eq_of_lt b.isLt).symm
  | k + 1, hk => by
    have hbit : (b.getLsbD (7 - k)).toNat = b.toNat / 2 ^ (7 - k) % 2 := by
      rw [BitVec.getLsbD, Nat.toNat_testBit]
    have hhalf : b.toNat / 2 ^ (8 - k) = b.toNat / 2 ^ (7 - k) / 2 := by
      rw [Nat.div_div_eq_div_mul, ← pow_succ, show 7 - k + 1 = 8 - k by omega]
    rw [List.range_succ, List.map_append, List.foldl_append, foldl_wireBits b k (by omega)]
    simp only [List.map_cons, List.map_nil, List.foldl_cons, List.foldl_nil, hbit, hhalf]
    rw [show 8 - (k + 1) = 7 - k by omega]
    omega

/-- Settles O9. -/
theorem bitsGoMostSignificantFirst : Obligations.BitsGoMostSignificantFirst := by
  intro b
  exact ⟨by simp [wireBits], by rw [wireBits, foldl_wireBits b 8 le_rfl]; simp⟩

/-! ### Refused offsets -/

/-- The offsets `check_off` refuses, odd before bit 7 (R47, R48, R144). -/
theorem checkOff_of_unadmitted {off : Byte} {c : RefuseCode}
    (h : (off.getLsbD 0 = true ∧ c = .misaligned) ∨
      (off.getLsbD 0 = false ∧ off.getLsbD 7 = true ∧ c = .offsetBit7)) : checkOff off = some c := by
  obtain ⟨h0, rfl⟩ | ⟨h0, h7, rfl⟩ := h
  · rw [checkOff, if_pos h0]
  · rw [checkOff, if_neg (Bool.eq_false_iff.1 h0), if_pos h7]

/-- All that a refusal at the end of `S_CHECK` does (R142). -/
theorem refuse_checked (c : RefuseCode) (s : State) :
    refuse c (checked s) =
      { s with
        host := s.host.drop 2, devRecovering := (checked s).devRecovering
        fsm := .idle, fpos := .csOn, rpos := .lineOn, waiting := false, aborting := false
        responses := s.responses ++ [⟨.refused c, xfaultOut s, .none⟩] } := by
  rw [checked_turns, turns_eq]; rfl

/-- Settles O31: both accesses run `check_off` first, and a refusal changes nothing else of the block. -/
theorem unadmittedOffsetIsRefused : Obligations.UnadmittedOffsetIsRefused := by
  intro s page off v c hs h
  have hc := checkOff_of_unadmitted h
  refine ⟨refuse c (checked s), ?_, ?_, ?_⟩
  · simp only [exec, execReadReg, operate_of_idle hs, hc]
  · simp only [exec, execWriteReg, operate_of_idle hs, hc]
  · rw [refuse_checked]

end Sys2Proof.Machine
end

section
/-! SUPPORT. Register accesses to their end: what READ_REG and WRITE_REG send, receive and leave (R44, R45, R84 to
R87). -/

namespace Sys2Proof.Machine

/-! ### The bytes an operation receives -/

/-- `l` are the bytes of the first exchanges from `s`: the listed ones, outside the recovery window (R8, R33). -/
def State.Gets (s : State) (l : List Byte) : Prop :=
  s.devRecovering = false → ∀ (k : Nat) (r b : Byte), l[k]? = some r → s.xport[k]? = some (.byte b) → r = b

theorem State.Gets.nil (s : State) : s.Gets [] := by simp [State.Gets]

theorem State.Gets.pair {s : State} {r0 r1 : Byte}
    (h0 : s.devRecovering = false → ∀ b, s.xport[0]? = some (.byte b) → r0 = b)
    (h1 : s.devRecovering = false → ∀ b, s.xport[1]? = some (.byte b) → r1 = b) : s.Gets [r0, r1] := by
  intro hd k r b hr hb
  match k with
  | 0 => obtain rfl := Option.some.inj hr; exact h0 hd b hb
  | 1 => obtain rfl := Option.some.inj hr; exact h1 hd b hb
  | k + 2 => simp at hr

/-- The bytes received from `s`, and then those received from the state `t` these exchanges lead to. -/
theorem State.Gets.append {s t : State} {l m : List Byte} (h : s.Gets l) (k : t.Gets m)
    (hx : t.xport = s.xport.drop l.length) (hd : s.devRecovering = false → t.devRecovering = false) :
    s.Gets (l ++ m) := by
  intro hs i r b hr hb
  by_cases hi : i < l.length
  · exact h hs i r b (by rwa [List.getElem?_append_left hi] at hr) hb
  · rw [List.getElem?_append_right (by omega)] at hr
    refine k (hd hs) (i - l.length) r b hr ?_
    rw [hx, List.getElem?_drop, Nat.add_sub_cancel' (by omega)]
    exact hb

/-- The bytes `l` received first, and then the listed ones. -/
def receivedList (l : List Byte) (s : State) (k : Nat) : Byte := l[k]?.getD (listedByte s.xport k)

theorem State.Gets.receives {s : State} {l : List Byte} (h : s.Gets l) : s.Receives (receivedList l s) := by
  intro hd k b hb
  cases hl : l[k]? with
  | none => simp [receivedList, hl, listedByte, hb]
  | some r => simpa [receivedList, hl] using h hd k r b hl hb

theorem receivedList_append_left {l m : List Byte} {s : State} {k : Nat} (h : k < l.length) :
    receivedList (l ++ m) s k = receivedList l s k := by
  rw [receivedList, receivedList, List.getElem?_append_left h]

theorem receivedList_append_right {l m : List Byte} {s : State} {i k : Nat} {r : Byte} (hi : l.length + k = i)
    (hk : m[k]? = some r) : receivedList (l ++ m) s i = r := by
  subst hi
  rw [receivedList, List.getElem?_append_right (by omega), Nat.add_sub_cancel_left, hk, Option.getD_some]

/-- The page-select frame shows the first two received bytes. -/
theorem selectTrace_congr {s : State} {page : Byte} {rx rx' : Nat → Byte}
    (h : page ≠ s.curPage → rx 0 = rx' 0 ∧ rx 1 = rx' 1) : selectTrace s page rx = selectTrace s page rx' := by
  unfold selectTrace
  split
  · rfl
  · obtain ⟨h0, h1⟩ := h ‹_›; rw [h0, h1]

/-- What is received after the page select does not show in its frame. -/
theorem selectTrace_append {s : State} {page : Byte} {l : List Byte} (m : List Byte)
    (hl : l.length = selectXfers s page) :
    selectTrace s page (receivedList (l ++ m) s) = selectTrace s page (receivedList l s) := by
  refine selectTrace_congr fun hn => ?_
  rw [selectXfers, if_neg hn] at hl
  exact ⟨receivedList_append_left (by omega), receivedList_append_left (by omega)⟩

/-! ### The two frames of a register access -/

/-- `x` and then `y` are the frame states of the register access with op code `op` (R21, R84, R85). -/
structure AccessFrames (op : BitVec 4) (x y : Fsm) : Prop where
  first : firstState op = x
  notSelect : x ≠ .psel ∧ x ≠ .pselWait
  last : y ≠ .psel
  next : ∀ s, afterStall (stallOf x) s = goto y s
  discards : captures x = false
  stallFirst : ∀ c, stallUs (stallOf x) c = c.tStallUs
  stallLast : ∀ c, stallUs (stallOf y) c = c.tStallUs

theorem readReg_frames : AccessFrames 0x0 .raddr .rdata :=
  ⟨rfl, by simp, by simp, fun _ => rfl, rfl, fun _ => rfl, fun _ => rfl⟩

theorem writeReg_frames : AccessFrames 0x1 .wlo .whi :=
  ⟨rfl, by simp, by simp, fun _ => rfl, rfl, fun _ => rfl, fun _ => rfl⟩

/-- The device's page after a frame that completes outside the recovery window, from page `p`; `d` is the index of the
draw of an open page (R28). -/
def pageAfter (b0 b1 : Byte) (d : Nat) (p : Byte) : Byte :=
  if b0 = 0x80 then b1 else if b0 = 0x81 then Config.pageDraw d else p

theorem pageAfter_of_ne {b0 b1 : Byte} {d : Nat} {p : Byte} (h : b0 ≠ 0x80) (h' : b0 ≠ 0x81) :
    pageAfter b0 b1 d p = p := by rw [pageAfter, if_neg h, if_neg h']

theorem latchedPage_turns_pageAfter {b0 b1 : Byte} {s : State} (n : Nat) (h : s.devRecovering = false) :
    latchedPage b0 b1 (turns n s) = pageAfter b0 b1 s.pageDraws s.devPage := latchedPage_turns n h

/-- The page decision and its page select, with the bytes it receives: none on a page hit (R80, R81, R86). -/
theorem select_gets {s : State} {x y : Fsm} {page : Byte} (hf : AccessFrames s.reqOp x y) (hp : s.reqPage = page)
    (hr : s.Responsive) (he : s.NoReportedError) :
    ∃ (l : List Byte) (dp : Byte) (dr : Bool) (rd pd : Nat), l.length = selectXfers s page ∧ s.Gets l ∧
      selectPage page (pageDecision x s) =
        { s with
          fsm := x, fpos := .csOn, rpos := .lineOn, waiting := false, aborting := false
          csLine := if page = s.curPage then s.csLine else false
          curPage := page, devPage := dp, devRecovering := dr, rxDraws := rd, pageDraws := pd
          xport := s.xport.drop (selectXfers s page), timer := s.timer.drop (selectXfers s page / 2)
          host := s.host.drop (3 * selectXfers s page)
          bus := s.bus ++ selectTrace s page (receivedList l s) } ∧
      (s.devRecovering = false → dr = false ∧ dp = if page = s.curPage then s.devPage else page) := by
  obtain ⟨r0, r1, dp, dr, rd, pd, l0, l1, e, hpage⟩ :=
    select_responsive hp hf.first hf.notSelect.1 hf.notSelect.2 hr he
  by_cases h : page = s.curPage
  · refine ⟨[], dp, dr, rd, pd, by simp [selectXfers, h], .nil s, ?_, hpage⟩
    rw [e, selectTrace_congr fun hn => absurd h hn]
  · refine ⟨[r0, r1], dp, dr, rd, pd, by simp [selectXfers, h], .pair (fun hd => l0 hd h) (fun hd => l1 hd h), ?_,
      hpage⟩
    have hb : selectTrace s page (fun k => if k = 0 then r0 else r1) = selectTrace s page (receivedList [r0, r1] s) :=
      selectTrace_congr fun _ => ⟨rfl, rfl⟩
    rw [e, hb]

/-- The two frames of a register access with agents that answer, up to what follows the second stall (R84, R85). Only
the second frame may keep its bytes. -/
theorem accessFrames_responsive {op : BitVec 4} {x y : Fsm} {u : State} (b0 b1 c0 c1 : Byte)
    (hf : AccessFrames op x y) (hx : u.fsm = x) (hp : u.fpos = .csOn) (ha : u.aborting = false) (hr : u.Responsive)
    (he : u.NoReportedError) :
    ∃ (r0 r1 q0 q1 dp : Byte) (dr : Bool) (rd pd : Nat), u.Gets [r0, r1, q0, q1] ∧
      framePhase y c0 c1 (framePhase x b0 b1 u) = afterStall (stallOf y)
        { u with
          fsm := stallOf y, fpos := .csOn, rpos := .lineOn, waiting := false, aborting := false, csLine := false
          devPage := dp, devRecovering := dr, rxDraws := rd, pageDraws := pd
          rx0 := if captures y then q0 else u.rx0
          rx1 := if captures y then q1 else u.rx1
          xport := u.xport.drop 4, timer := u.timer.drop 2, host := u.host.drop 12
          bus := u.bus ++ frameTrace b0 b1 r0 r1 u.cfg.tStallUs ++ frameTrace c0 c1 q0 q1 u.cfg.tStallUs } ∧
      (u.devRecovering = false → dr = false ∧ ∃ d e, dp = pageAfter c0 c1 e (pageAfter b0 b1 d u.devPage)) := by
  obtain ⟨r0, r1, e1, l0, l1⟩ := framePhase_responsive (b0 := b0) (b1 := b1) hx hp ha hr he
  let v := goto y (framed x b0 b1 r0 r1 u)
  obtain ⟨q0, q1, e2, k0, k1⟩ := framePhase_responsive (x := y) (b0 := c0) (b1 := c1) (s := v) rfl rfl rfl
    (hr.of_drop 2 1 rfl rfl) (he.of_drop 2 rfl rfl)
  have hd : u.devRecovering = false → v.devRecovering = false := turns_devRecovering_false 6
  have hgets : u.Gets [r0, r1, q0, q1] := (State.Gets.pair l0 l1).append (State.Gets.pair k0 k1) rfl hd
  refine ⟨r0, r1, q0, q1, latchedPage c0 c1 (turns 4 v), (turns 6 v).devRecovering, u.rxDraws + 2 + 2,
    u.pageDraws + 1 + 1, hgets, ?_, fun h => ⟨turns_devRecovering_false 6 (hd h), u.pageDraws, v.pageDraws, ?_⟩⟩
  · rw [e1, hf.next, e2]
    simp only [framed, v, goto, hf.discards, hf.stallFirst, hf.stallLast, if_neg hf.notSelect.1, if_neg hf.last,
      Bool.false_eq_true, if_false, List.drop_drop]
  · rw [← latchedPage_turns_pageAfter 4 h]
    exact latchedPage_turns_pageAfter 4 (hd h)

/-- A register access with agents that answer: the page select on a miss, and the two frames, with the bytes received
(R81, R84, R85). -/
theorem access_responsive {s : State} {x y : Fsm} {page : Byte} (b0 b1 c0 c1 : Byte) (hf : AccessFrames s.reqOp x y)
    (hp : s.reqPage = page) (hr : s.Responsive) (he : s.NoReportedError) :
    ∃ (rx : Nat → Byte) (dp : Byte) (dr : Bool) (rd pd : Nat), s.Receives rx ∧
      (let n := selectXfers s page
       framePhase y c0 c1 (framePhase x b0 b1 (selectPage page (pageDecision x s))) = afterStall (stallOf y)
        { s with
          fsm := stallOf y, fpos := .csOn, rpos := .lineOn, waiting := false, aborting := false, csLine := false
          curPage := page, devPage := dp, devRecovering := dr, rxDraws := rd, pageDraws := pd
          rx0 := if captures y then rx (n + 2) else s.rx0
          rx1 := if captures y then rx (n + 3) else s.rx1
          xport := s.xport.drop (n + 4), timer := s.timer.drop (n / 2 + 2), host := s.host.drop (3 * n + 12)
          bus := s.bus ++ selectTrace s page rx ++ frameTrace b0 b1 (rx n) (rx (n + 1)) s.cfg.tStallUs ++
            frameTrace c0 c1 (rx (n + 2)) (rx (n + 3)) s.cfg.tStallUs }) ∧
      (s.devRecovering = false → dr = false ∧ ∃ d e,
        dp = pageAfter c0 c1 e (pageAfter b0 b1 d (if page = s.curPage then s.devPage else page))) := by
  obtain ⟨l, dp, dr, rd, pd, hl, hgets, e, hpage⟩ := select_gets hf hp hr he
  obtain ⟨r0, r1, q0, q1, dp', dr', rd', pd', hgets', e', hpage'⟩ := accessFrames_responsive b0 b1 c0 c1 hf
    (u := selectPage page (pageDecision x s)) (by rw [e]) (by rw [e]) (by rw [e])
    (hr.of_drop (selectXfers s page) (selectXfers s page / 2) (by rw [e]) (by rw [e]))
    (he.of_drop (selectXfers s page) (by rw [e]) (by rw [e]))
  rw [e] at hgets' hpage'
  have received {i : Nat} (k : Nat) {r : Byte} (hi : selectXfers s page + k = i)
      (hk : [r0, r1, q0, q1][k]? = some r) : receivedList (l ++ [r0, r1, q0, q1]) s i = r :=
    receivedList_append_right (by omega) hk
  refine ⟨receivedList (l ++ [r0, r1, q0, q1]) s, dp', dr', rd', pd',
    (hgets.append hgets' (by rw [hl]) fun hd => (hpage hd).1).receives, ?_, fun hd => ?_⟩
  · rw [e', selectTrace_append _ hl]
    simp only [e, received 0 (Nat.add_zero _) rfl, received 1 rfl rfl, received 2 rfl rfl, received 3 rfl rfl,
      List.drop_drop]
  · rw [← (hpage hd).2]
    exact hpage' (hpage hd).1

/-! ### The whole accesses -/

theorem accept_writeReg (page off : Byte) (v : Word) (s : State) :
    accept (.writeReg page off v) s =
      pageDecision .wlo { s with reqOp := 0x1, reqPage := page, reqOff := off, reqData := v } := rfl

/-- All that the two turns of `S_IDLE` and `S_CHECK` do (R33). -/
theorem exists_checked_eq (s : State) :
    ∃ dr, checked s = { s with host := s.host.drop 2, devRecovering := dr } ∧
      (s.devRecovering = false → dr = false) :=
  ⟨(checked s).devRecovering, turns_eq 2 s, turns_devRecovering_false 2⟩

/-- All that the response of a completed operation does (R74). -/
theorem respondResult_goto_resp (s : State) :
    respondResult (goto .resp s) =
      { s with
        fsm := .idle, fpos := .csOn, rpos := .lineOn, waiting := false, aborting := false
        host := s.host.drop 1, devRecovering := (hostTurn s).devRecovering
        responses := s.responses ++ [⟨.ok, xfaultOut s, resultPayload s⟩] } := by
  have e : hostTurn (goto .resp s) = goto .resp (hostTurn s) := turns_goto 1 .resp s
  rw [respondResult_of_resp rfl, e, hostTurn_eq s, List.drop_one]
  rfl

/-- An access whose page select takes `a` turns of the host takes two before it, twelve for its frames and one for its
response. -/
theorem access_turns (a : Nat) : 2 + (a + 12) + 1 = a + 15 := by omega

/-- Settles O32: the page select and the two frames, then the response with the word of the data frame. -/
theorem readRegReturnsTheDataWord : Obligations.ReadRegReturnsTheDataWord := by
  intro s page off hs ho hr he
  obtain ⟨h80, h81⟩ := admitted_ne_select off ho
  obtain ⟨dr0, hc, hdr0⟩ := exists_checked_eq s
  obtain ⟨rx, dp, dr, rd, pd, hrx, e, hpage⟩ := access_responsive (page := page) off 0x00 0x00 0x00
    (s := { s with host := s.host.drop 2, devRecovering := dr0, reqOp := 0x0, reqPage := page, reqOff := off })
    readReg_frames rfl hr he
  refine ⟨rx, _, by rw [exec_readReg_of_idle hs ho, runReadReg, hc, accept_readReg, e, stallOf, afterStall,
      respondResult_goto_resp], fun hd => hrx (hdr0 hd), ?_, fun hd => ?_⟩
  · simp [captures, captureRdata, resultPayload, selectXfers, selectTrace, xfaultOut, access_turns]
  · obtain ⟨hdr, d, d', hdp⟩ := hpage (hdr0 hd)
    rw [pageAfter_of_ne (by decide) (by decide), pageAfter_of_ne h80 h81] at hdp
    exact ⟨hostTurn_devRecovering_false hdr, hdp⟩

/-- Settles O33: the page select and the two frames, then the acknowledgement. Only the frames for offset 0 speak to the
page-select register, and the second of them leaves the page open. -/
theorem writeRegSendsLowThenHighByte : Obligations.WriteRegSendsLowThenHighByte := by
  intro s page off v hs ho hr he
  obtain ⟨h80, h81⟩ := wloB0_select off ho
  obtain ⟨k81, k80⟩ := whiB0_select off ho
  obtain ⟨dr0, hc, hdr0⟩ := exists_checked_eq s
  obtain ⟨rx, dp, dr, rd, pd, hrx, e, hpage⟩ := access_responsive (page := page) (wloB0 off) (lowByte v) (whiB0 off)
    (highByte v)
    (s := { s with
      host := s.host.drop 2, devRecovering := dr0, reqOp := 0x1, reqPage := page, reqOff := off, reqData := v })
    writeReg_frames rfl hr he
  refine ⟨rx, _, by rw [exec_writeReg_of_idle hs ho, runWriteReg, hc, accept_writeReg, e, stallOf, afterStall,
      respondResult_goto_resp], fun hd => hrx (hdr0 hd), ?_, fun hd => ?_⟩
  · simp [captures, resultPayload, selectXfers, selectTrace, xfaultOut, wloB0, whiB0, lowByte, highByte, access_turns]
  · obtain ⟨hdr, d, d', hdp⟩ := hpage (hdr0 hd)
    refine ⟨hostTurn_devRecovering_false hdr, fun h0 => ?_, fun h0 => ⟨d', ?_⟩⟩
    · rw [pageAfter_of_ne k80 (fun h => h0 (k81.1 h)), pageAfter_of_ne (fun h => h0 (h80.1 h)) h81] at hdp
      exact hdp
    · rw [pageAfter, if_neg k80, if_pos (k81.2 h0)] at hdp
      exact hdp

/-- Settles O46: the first read leaves `cur_page` on the page, so the second one is a page hit. -/
theorem repeatedReadHitsThePage : Obligations.RepeatedReadHitsThePage := by
  intro s page off hs hr he ho
  obtain ⟨rx, t, et, -, ht, -⟩ := readRegReturnsTheDataWord s page off hs ho hr he
  have hc : t.cfg = s.cfg := by rw [ht]
  have hx : t.xport = s.xport.drop (selectXfers s page + 4) := by rw [ht]
  have htm : t.timer = s.timer.drop (selectXfers s page / 2 + 2) := by rw [ht]
  obtain ⟨rx', u, eu, -, hu, -⟩ := readRegReturnsTheDataWord t page off (by rw [ht]) ho (hr.of_drop _ _ hx htm)
    (he.of_drop _ hc hx)
  have hit : selectTrace t page rx' = [] := if_pos (by rw [ht])
  have hb := congrArg State.bus hu
  simp only [hit, hc, List.append_nil] at hb
  exact ⟨t, u, _, _, _, _, et, eu, hb⟩

end Sys2Proof.Machine
end

section
/-! SUPPORT. The encodings: the fields of a request word and of a frame word, the decoder's equations, and the round
trips between instructions and words (R60 to R73). -/

namespace Sys2Proof.Machine

/-! ### The fields of a request word -/

section
variable (op : BitVec 4) (addr data : BitVec 16)

@[simp] theorem reqOpField_requestWord : reqOpField (requestWord op addr data) = op := by
  rw [reqOpField, requestWord, BitVec.extractLsb'_append_eq_of_le (by omega)]; simp

@[simp] theorem reqRsvField_requestWord : reqRsvField (requestWord op addr data) = 0 := by
  rw [reqRsvField, requestWord, BitVec.extractLsb'_append_eq_of_add_le (by omega),
    BitVec.extractLsb'_append_eq_of_le (by omega)]; simp

@[simp] theorem reqAddrField_requestWord : reqAddrField (requestWord op addr data) = addr := by
  rw [reqAddrField, requestWord, BitVec.extractLsb'_append_eq_of_add_le (by omega),
    BitVec.extractLsb'_append_eq_of_add_le (by omega), BitVec.extractLsb'_append_eq_of_le (by omega)]; simp

@[simp] theorem reqDataField_requestWord : reqDataField (requestWord op addr data) = data := by
  rw [reqDataField, requestWord, BitVec.extractLsb'_append_eq_of_add_le (by omega),
    BitVec.extractLsb'_append_eq_of_add_le (by omega), BitVec.extractLsb'_append_eq_of_add_le (by omega)]; simp

end

@[simp] theorem addrPage_append (page off : Byte) : addrPage (page ++ off) = page := highByte_append page off

@[simp] theorem addrOff_append (page off : Byte) : addrOff (page ++ off) = off := lowByte_append page off

/-- A 16-bit field is its two bytes (R40). -/
theorem append_bytes (v : BitVec 16) : v.extractLsb' 8 8 ++ v.extractLsb' 0 8 = v := by
  rw [BitVec.extractLsb'_append_extractLsb'_eq_extractLsb' (by omega)]; simp

/-- A request word without reserved bits is the word of its fields (R60). -/
theorem requestWord_fields {w : ReqWord} (h : reqRsvField w = 0) :
    requestWord (reqOpField w) (reqAddrField w) (reqDataField w) = w := by
  rw [requestWord, show (0#4) = reqRsvField w from h.symm, reqOpField, reqRsvField, reqAddrField, reqDataField,
    BitVec.extractLsb'_append_extractLsb'_eq_extractLsb' (by omega),
    BitVec.extractLsb'_append_extractLsb'_eq_extractLsb' (by omega),
    BitVec.extractLsb'_append_extractLsb'_eq_extractLsb' (by omega)]
  simp

/-! ### The decoder of request words, one equation for each row of R61 -/

theorem admittedOff_iff {off : Byte} : admittedOff off = true ↔ off.getLsbD 0 = false ∧ off.getLsbD 7 = false := by
  simp [admittedOff]

theorem checkedAccess_of_admitted {off : Byte} (i : Instr) (h : admittedOff off = true) :
    checkedAccess off i = .ok i := by
  rw [checkedAccess, checkOff_of_admitted h]

/-- Op codes 4 to 7 and D to F are reserved (R61). -/
abbrev ReservedOp (op : BitVec 4) : Prop := (4 ≤ op.toNat ∧ op.toNat ≤ 7) ∨ 0xD ≤ op.toNat

/-- The rows of R61 whose `addr` must be 0 and whose operand is `data`, by op code. -/
inductive DataRow : BitVec 4 → (Word → Instr) → Prop where
  | resetDev : DataRow 0x3 .resetDev
  | scaleAccl : DataRow 0x8 .scaleAccl
  | scaleGyro : DataRow 0x9 .scaleGyro
  | scaleTemp : DataRow 0xA .scaleTemp
  | scaleDang : DataRow 0xB .scaleDang
  | scaleDvel : DataRow 0xC .scaleDvel

theorem DataRow.encode_eq {op : BitVec 4} {f : Word → Instr} (h : DataRow op f) (v : Word) :
    encode (f v) = .request (requestWord op 0 v) := by
  cases h <;> rfl

/-- Every op code has a row of R61 or is reserved. -/
theorem op_rows (op : BitVec 4) :
    op = 0x0 ∨ op = 0x1 ∨ op = 0x2 ∨ (∃ f, DataRow op f) ∨ ReservedOp op := by
  have h : op = 0x0 ∨ op = 0x1 ∨ op = 0x2 ∨ ReservedOp op ∨
      op = 0x3 ∨ op = 0x8 ∨ op = 0x9 ∨ op = 0xA ∨ op = 0xB ∨ op = 0xC := by
    revert op; decide
  obtain h | h | h | h | rfl | rfl | rfl | rfl | rfl | rfl := h
  · exact .inl h
  · exact .inr (.inl h)
  · exact .inr (.inr (.inl h))
  · exact .inr (.inr (.inr (.inr h)))
  all_goals exact .inr (.inr (.inr (.inl ⟨_, by constructor⟩)))

section
variable {w : ReqWord}

theorem decodeRequest_of_rsv (h : reqRsvField w ≠ 0) : decodeRequest w = .error (.refused .reservedOp) := if_pos h

theorem decodeRequest_of_reservedOp (h : ReservedOp (reqOpField w)) :
    decodeRequest w = .error (.refused .reservedOp) := by
  have : ∀ op : BitVec 4, ReservedOp op →
      op = 0x4 ∨ op = 0x5 ∨ op = 0x6 ∨ op = 0x7 ∨ op = 0xD ∨ op = 0xE ∨ op = 0xF := by decide
  obtain h | h | h | h | h | h | h := this _ h <;> simp [decodeRequest, h, refuseWith]

variable (hr : reqRsvField w = 0)
include hr

theorem decodeRequest_op0 (ho : reqOpField w = 0x0) : decodeRequest w =
    if reqDataField w = 0 then
      checkedAccess (addrOff (reqAddrField w)) (.readReg (addrPage (reqAddrField w)) (addrOff (reqAddrField w)))
    else .error (.refused .nonzeroField) := by
  simp [decodeRequest, hr, ho, refuseWith]

theorem decodeRequest_op1 (ho : reqOpField w = 0x1) : decodeRequest w =
    checkedAccess (addrOff (reqAddrField w))
      (.writeReg (addrPage (reqAddrField w)) (addrOff (reqAddrField w)) (reqDataField w)) := by
  simp [decodeRequest, hr, ho]

theorem decodeRequest_op2 (ho : reqOpField w = 0x2) : decodeRequest w =
    if reqAddrField w = 0 ∧ reqDataField w = 0 then .ok .readBurst else .error (.refused .nonzeroField) := by
  simp [decodeRequest, hr, ho, refuseWith]

theorem decodeRequest_dataRow {f : Word → Instr} (h : DataRow (reqOpField w) f) : decodeRequest w =
    if reqAddrField w = 0 then .ok (f (reqDataField w)) else .error (.refused .nonzeroField) := by
  generalize ho : reqOpField w = op at h
  cases h <;> simp [decodeRequest, hr, ho, zeroAddr, refuseWith]

end

/-! ### The round trips (R62) -/

theorem DataRow.decode_encode {op : BitVec 4} {f : Word → Instr} (h : DataRow op f) (v : Word) :
    decode (encode (f v)) = .ok (f v) := by
  rw [h.encode_eq, decode, decodeRequest_dataRow (by simp) (by simpa using h)]; simp

theorem readFrame_frameWord {off : Byte} (h : admittedOff off = true) : readFrame (frameWord off 0x00) = true := by
  simp [readFrame, h]

/-- Settles O2: the fields of the word give the row and its operands back. -/
theorem decodeUndoesEncode : Obligations.DecodeUndoesEncode := by
  intro i hi
  cases i with
  | readReg page off =>
    rw [encode, decode, decodeRequest_op0 (by simp) (by simp)]; simp [checkedAccess_of_admitted _ hi]
  | writeReg page off v =>
    rw [encode, decode, decodeRequest_op1 (by simp) (by simp)]; simp [checkedAccess_of_admitted _ hi]
  | readBurst => rw [encode, decode, decodeRequest_op2 (by simp) (by simp)]; simp
  | resetDev ms => exact DataRow.resetDev.decode_encode ms
  | scaleAccl raw => exact DataRow.scaleAccl.decode_encode raw
  | scaleGyro raw => exact DataRow.scaleGyro.decode_encode raw
  | scaleTemp raw => exact DataRow.scaleTemp.decode_encode raw
  | scaleDang raw => exact DataRow.scaleDang.decode_encode raw
  | scaleDvel raw => exact DataRow.scaleDvel.decode_encode raw
  | psel page => exact decode_frame_of_some (by simp [decodeFrame])
  | raddr off => exact decode_frame_of_some (by rw [decodeFrame, if_pos (readFrame_frameWord hi), frameB0_frameWord])
  | rdata => rfl
  | wlo off lo =>
    obtain ⟨h7, h0, hb⟩ := wloB0_bits off hi
    refine decode_frame_of_some ?_
    rw [decodeFrame, writeFlag, oddOff, frameB0_frameWord, frameB1_frameWord, h7, h0, hb]; rfl
  | whi off b =>
    obtain ⟨h7, h0, hb⟩ := whiB0_bits off hi
    refine decode_frame_of_some ?_
    rw [decodeFrame, writeFlag, oddOff, frameB0_frameWord, frameB1_frameWord, h7, h0, hb]; rfl
  | breq off => exact decode_frame_of_some (by rw [decodeFrame, if_pos (readFrame_frameWord hi), frameB0_frameWord])
  | bend off => exact decode_frame_of_some (by rw [decodeFrame, if_pos (readFrame_frameWord hi), frameB0_frameWord])

theorem encode_of_decodeRequest {w : ReqWord} {i : Instr} (h : decodeRequest w = .ok i) : encode i = .request w := by
  by_cases hr : reqRsvField w = 0
  swap
  · rw [decodeRequest_of_rsv hr] at h; cases h
  rw [← requestWord_fields hr]
  obtain ho | ho | ho | ⟨f, ho⟩ | ho := op_rows (reqOpField w)
  · rw [decodeRequest_op0 hr ho] at h
    split at h
    next hd =>
      obtain ⟨rfl, -⟩ := checkedAccess_ok h
      rw [encode, ho, hd, addrPage, addrOff, append_bytes]
    · cases h
  · rw [decodeRequest_op1 hr ho] at h
    obtain ⟨rfl, -⟩ := checkedAccess_ok h
    rw [encode, ho, addrPage, addrOff, append_bytes]
  · rw [decodeRequest_op2 hr ho] at h
    split at h <;> cases h
    next hz => rw [encode, ho, hz.1, hz.2]
  · rw [decodeRequest_dataRow hr ho] at h
    split at h <;> cases h
    next hz => rw [ho.encode_eq, hz]
  · rw [decodeRequest_of_reservedOp ho] at h; cases h

theorem frameWord_fields (w : FrameWord) : frameWord (frameB0 w) (frameB1 w) = w := append_bytes w

theorem frameWord_of_readFrame {w : FrameWord} (h : readFrame w = true) :
    frameWord (frameB0 w) 0x00 = w ∧ admittedOff (frameB0 w) = true := by
  obtain ⟨ho, h1⟩ : admittedOff (frameB0 w) = true ∧ frameB1 w = 0x00 := by simpa [readFrame] using h
  exact ⟨by rw [← h1, frameWord_fields], ho⟩

theorem encode_of_decodeFrame {k : FrameKind} {w : FrameWord} {i : Instr} (h : decodeFrame k w = some i) :
    encode i = .frame k w ∧ i.wellFormed = true := by
  cases k with
  | psel =>
    simp only [decodeFrame] at h; split at h <;> cases h
    next hb => exact ⟨by rw [encode, ← hb, frameWord_fields], rfl⟩
  | raddr =>
    simp only [decodeFrame] at h; split at h <;> cases h
    next hb => obtain ⟨hw, ho⟩ := frameWord_of_readFrame hb; exact ⟨by rw [encode, hw], ho⟩
  | rdata =>
    simp only [decodeFrame] at h; split at h <;> cases h
    next hb => exact ⟨by rw [hb]; rfl, rfl⟩
  | wlo =>
    simp only [decodeFrame] at h; split at h <;> cases h
    next hb =>
      obtain ⟨h7, h0⟩ : (frameB0 w).getLsbD 7 = true ∧ (frameB0 w).getLsbD 0 = false := by
        simpa only [writeFlag, oddOff, Bool.and_eq_true, Bool.not_eq_true'] using hb
      have hm : wloB0 (frameB0 w &&& 0x7E) = frameB0 w := wloB0_masked_of_even _ h7 h0
      exact ⟨by rw [encode, hm, frameWord_fields], masked_admitted _⟩
  | whi =>
    simp only [decodeFrame] at h; split at h <;> cases h
    next hb =>
      obtain ⟨h7, h0⟩ : (frameB0 w).getLsbD 7 = true ∧ (frameB0 w).getLsbD 0 = true := by
        simpa only [writeFlag, oddOff, Bool.and_eq_true] using hb
      have hm : whiB0 (frameB0 w &&& 0x7E) = frameB0 w := whiB0_masked_of_odd _ h7 h0
      exact ⟨by rw [encode, hm, frameWord_fields], masked_admitted _⟩
  | breq =>
    simp only [decodeFrame] at h; split at h <;> cases h
    next hb => obtain ⟨hw, ho⟩ := frameWord_of_readFrame hb; exact ⟨by rw [encode, hw], ho⟩
  | bend =>
    simp only [decodeFrame] at h; split at h <;> cases h
    next hb => obtain ⟨hw, ho⟩ := frameWord_of_readFrame hb; exact ⟨by rw [encode, hw], ho⟩

/-- Settles O3. -/
theorem encodeUndoesDecode : Obligations.EncodeUndoesDecode := by
  intro f i h
  cases f with
  | request w => exact ⟨encode_of_decodeRequest h, (decodeRequest_ok h).2⟩
  | frame k w =>
    cases hd : decodeFrame k w with
    | some j =>
      rw [decode_frame_of_some hd] at h
      cases h
      exact encode_of_decodeFrame hd
    | none => rw [decode_frame_of_none hd] at h; cases h

/-! ### The order of the checks (R73, R144) -/

theorem addrOff_getLsbD {addr : BitVec 16} {k : Nat} (h : k < 8) : (addrOff addr).getLsbD k = addr.getLsbD k := by
  simp [addrOff, h]

/-- `r` reports the first failing one of the four checks, and is the operation `i` when none fails (R73, R144). -/
def Prioritized (reserved nonzero misaligned bit7 : Prop) (i : Instr) (r : Except DecodeError Instr) : Prop :=
  (reserved → r = .error (.refused .reservedOp)) ∧
  (¬reserved → nonzero → r = .error (.refused .nonzeroField)) ∧
  (¬reserved → ¬nonzero → misaligned → r = .error (.refused .misaligned)) ∧
  (¬reserved → ¬nonzero → ¬misaligned → bit7 → r = .error (.refused .offsetBit7)) ∧
  (¬reserved → ¬nonzero → ¬misaligned → ¬bit7 → r = .ok i)

section
variable {reserved nonzero misaligned bit7 zero : Prop} [Decidable zero] {i : Instr}

theorem prioritized_reserved (h : reserved) :
    Prioritized reserved nonzero misaligned bit7 i (.error (.refused .reservedOp)) :=
  ⟨fun _ => rfl, absurd h, absurd h, absurd h, absurd h⟩

/-- An operation with fields that must be 0 and no offset. -/
theorem prioritized_zeroFields (hr : ¬reserved) (hz : nonzero ↔ ¬zero) (hm : ¬misaligned) (hb : ¬bit7) :
    Prioritized reserved nonzero misaligned bit7 i (if zero then .ok i else .error (.refused .nonzeroField)) :=
  ⟨fun h => absurd h hr, fun _ h => if_neg (hz.1 h), fun _ _ h => absurd h hm, fun _ _ _ h => absurd h hb,
    fun _ h _ _ => if_pos (not_not.1 (mt hz.2 h))⟩

/-- A register access: the fields that must be 0, and then `check_off`, misaligned before bit 7. -/
theorem prioritized_access {addr : BitVec 16} (hr : ¬reserved) (hz : nonzero ↔ ¬zero)
    (hm : misaligned ↔ addr.getLsbD 0 = true) (hb : bit7 ↔ addr.getLsbD 7 = true) :
    Prioritized reserved nonzero misaligned bit7 i
      (if zero then checkedAccess (addrOff addr) i else .error (.refused .nonzeroField)) := by
  rw [← addrOff_getLsbD (by omega)] at hm hb
  refine ⟨fun h => absurd h hr, fun _ h => if_neg (hz.1 h), fun _ h h0 => ?_, fun _ h h0 h7 => ?_, fun _ h h0 h7 => ?_⟩
  all_goals rw [if_pos (not_not.1 (mt hz.2 h))]
  · rw [checkedAccess, checkOff_of_unadmitted (.inl ⟨hm.1 h0, rfl⟩)]; rfl
  · have h0 := Bool.eq_false_iff.2 (mt hm.2 h0)
    rw [checkedAccess, checkOff_of_unadmitted (.inr ⟨h0, hb.1 h7, rfl⟩)]; rfl
  · exact checkedAccess_of_admitted i
      (admittedOff_iff.2 ⟨Bool.eq_false_iff.2 (mt hm.2 h0), Bool.eq_false_iff.2 (mt hb.2 h7)⟩)

end

/-- Settles O4: row by row of R61. -/
theorem refusalsFollowThePriority : Obligations.RefusalsFollowThePriority := by
  intro w op addr data reserved nonzero misaligned bit7
  change Prioritized reserved nonzero misaligned bit7 _ (decodeRequest w)
  by_cases hr : reqRsvField w = 0
  swap
  · rw [decodeRequest_of_rsv hr]; exact prioritized_reserved (.inl hr)
  have hres : reserved ↔ ReservedOp (reqOpField w) := or_iff_right (not_not_intro hr)
  have hop : op = (reqOpField w).toNat := rfl
  generalize ho : reqOpField w = o at hres hop
  clear_value op
  subst hop
  obtain rfl | rfl | rfl | ⟨f, hf⟩ | hf := op_rows o
  · rw [decodeRequest_op0 hr ho]
    exact prioritized_access (by simp [hres]) (by simp [nonzero]; rfl) (by simp [misaligned]; rfl) (by simp [bit7]; rfl)
  · rw [decodeRequest_op1 hr ho]
    exact prioritized_access (zero := True) (by simp [hres]) (by simp [nonzero]) (by simp [misaligned]; rfl)
      (by simp [bit7]; rfl)
  · rw [decodeRequest_op2 hr ho]
    exact prioritized_zeroFields (by simp [hres]) (by simp [nonzero]; tauto) (by simp [misaligned]) (by simp [bit7])
  · rw [decodeRequest_dataRow hr (ho ▸ hf)]
    cases hf
    all_goals
      exact prioritized_zeroFields (by simp [hres]) (by simp [nonzero]; rfl) (by simp [misaligned]) (by simp [bit7])
  · rw [decodeRequest_of_reservedOp (ho ▸ hf)]; exact prioritized_reserved (hres.2 hf)

/-! ### Masks and matches of the rows (R61, R66) -/

/-- A masked word, field by field. -/
theorem masked_field {n : Nat} {w m v : BitVec n} (h : w &&& m = v) (k l : Nat) :
    w.extractLsb' k l &&& m.extractLsb' k l = v.extractLsb' k l := by
  rw [← h, BitVec.extractLsb'_and]

theorem admittedOff_iff_masked (off : Byte) : admittedOff off = true ↔ off &&& 0x81 = 0 := by
  revert off; decide

theorem addrPage_reqAddrField (w : ReqWord) : addrPage (reqAddrField w) = w.extractLsb' 24 8 := by
  rw [addrPage, reqAddrField]
  ext i hi
  simp [show 8 + i < 16 by omega, ← Nat.add_assoc]

theorem addrOff_reqAddrField (w : ReqWord) : addrOff (reqAddrField w) = w.extractLsb' 16 8 := by
  rw [addrOff, reqAddrField]
  ext i hi
  simp [show i < 16 by omega]

/-- A word that decodes matches the row of its instruction. -/
theorem masked_of_decodeRequest {w m v : ReqWord} {i : Instr} (hrow : Laws.TableRow.Statement i)
    (hm : Laws.rowMask i = m.toNat) (hv : Laws.rowMatch i = v.toNat) (h : decodeRequest w = .ok i) :
    w &&& m = v := by
  have hn := hrow (decodeRequest_ok h).2
  rw [Laws.encodedNat, encode_of_decodeRequest h, hm, hv] at hn
  exact BitVec.eq_of_toNat_eq (by rw [BitVec.toNat_and]; exact hn)

theorem masked_field_ones {n : Nat} {w m v : BitVec n} (h : w &&& m = v) (k l : Nat)
    (hm : m.extractLsb' k l = BitVec.allOnes l) : w.extractLsb' k l = v.extractLsb' k l := by
  rw [← masked_field h, hm, BitVec.and_allOnes]

/-- A word that matches a row whose operand is `data` decodes to it. -/
theorem DataRow.decode_masked {w : ReqWord} {op : BitVec 4} {f : Word → Instr} (hf : DataRow op f)
    (h : w &&& 0xFFFFFF0000 = requestWord op 0 0) : decodeRequest w = .ok (f (w.extractLsb' 0 16)) := by
  have ho : reqOpField w = op := (masked_field_ones h 36 4 rfl).trans (reqOpField_requestWord ..)
  have hr : reqRsvField w = 0 := (masked_field_ones h 32 4 rfl).trans (reqRsvField_requestWord ..)
  have ha : reqAddrField w = 0 := (masked_field_ones h 16 16 rfl).trans (reqAddrField_requestWord ..)
  rw [decodeRequest_dataRow hr (ho ▸ hf), if_pos ha, reqDataField]

/-- A register access that matches its row has an admitted offset. -/
theorem admittedOff_of_masked {w m : ReqWord} {op : BitVec 4} (h : w &&& m = requestWord op 0 0)
    (hm : m.extractLsb' 16 8 = 0x81) : admittedOff (w.extractLsb' 16 8) = true := by
  have ho := masked_field h 16 8
  rw [hm, ← addrOff_reqAddrField (requestWord _ _ _), reqAddrField_requestWord] at ho
  exact (admittedOff_iff_masked _).2 ho

/-- Settles O5: a word that decodes is the encoding of its instruction, which matches its row; a word that matches has
the row's op code and fields. -/
theorem requestWordsMatchTheirRow : Obligations.RequestWordsMatchTheirRow := by
  intro w
  refine ⟨⟨fun h => ?_, masked_of_decodeRequest (Laws.TableRow.readReg _ _) rfl rfl⟩,
    ⟨fun h => ?_, masked_of_decodeRequest (Laws.TableRow.writeReg _ _ _) rfl rfl⟩,
    ⟨fun h => ?_, fun h => ?_⟩,
    ⟨DataRow.resetDev.decode_masked, masked_of_decodeRequest (Laws.TableRow.resetDev _) rfl rfl⟩,
    ⟨DataRow.scaleAccl.decode_masked, masked_of_decodeRequest (Laws.TableRow.scaleAccl _) rfl rfl⟩,
    ⟨DataRow.scaleGyro.decode_masked, masked_of_decodeRequest (Laws.TableRow.scaleGyro _) rfl rfl⟩,
    ⟨DataRow.scaleTemp.decode_masked, masked_of_decodeRequest (Laws.TableRow.scaleTemp _) rfl rfl⟩,
    ⟨DataRow.scaleDang.decode_masked, masked_of_decodeRequest (Laws.TableRow.scaleDang _) rfl rfl⟩,
    ⟨DataRow.scaleDvel.decode_masked, masked_of_decodeRequest (Laws.TableRow.scaleDvel _) rfl rfl⟩⟩
  · have ho : reqOpField w = 0x0 := masked_field_ones h 36 4 rfl
    have hr : reqRsvField w = 0 := masked_field_ones h 32 4 rfl
    have hd : reqDataField w = 0 := masked_field_ones h 0 16 rfl
    rw [decodeRequest_op0 hr ho, if_pos hd, addrPage_reqAddrField, addrOff_reqAddrField]
    exact checkedAccess_of_admitted _ (admittedOff_of_masked (op := 0x0) h rfl)
  · have ho : reqOpField w = 0x1 := masked_field_ones h 36 4 rfl
    have hr : reqRsvField w = 0 := masked_field_ones h 32 4 rfl
    rw [decodeRequest_op1 hr ho, addrPage_reqAddrField, addrOff_reqAddrField, reqDataField]
    exact checkedAccess_of_admitted _ (admittedOff_of_masked (op := 0x1) h rfl)
  · rw [h]; rfl
  · exact (Fetched.request.inj (encode_of_decodeRequest h)).symm

/-- A masked frame, byte by byte. -/
theorem masked_frameWord {w : FrameWord} {m0 m1 v0 v1 : Byte} :
    w &&& frameWord m0 m1 = frameWord v0 v1 ↔ frameB0 w &&& m0 = v0 ∧ frameB1 w &&& m1 = v1 := by
  have hand : w &&& frameWord m0 m1 = frameWord (frameB0 w &&& m0) (frameB1 w &&& m1) := by
    conv_lhs => rw [← frameWord_fields w]
    exact BitVec.and_append
  rw [hand]
  constructor
  · intro h
    exact ⟨by simpa using congrArg frameB0 h, by simpa using congrArg frameB1 h⟩
  · rintro ⟨rfl, rfl⟩; rfl

/-- A read-request frame, masked (R66). -/
theorem readFrame_iff_masked (w : FrameWord) : readFrame w = true ↔ w &&& 0x81FF = 0x0000 := by
  have h : w &&& 0x81FF = 0x0000 ↔ frameB0 w &&& 0x81 = 0x00 ∧ frameB1 w &&& 0xFF = 0x00 :=
    masked_frameWord (m0 := 0x81) (m1 := 0xFF) (v0 := 0x00) (v1 := 0x00)
  rw [h, show frameB1 w &&& 0xFF = frameB1 w from BitVec.and_allOnes, ← admittedOff_iff_masked]
  simp [readFrame]

/-- Only the first byte is masked. -/
theorem masked_frameB0 {w : FrameWord} {m v : Byte} :
    w &&& frameWord m 0x00 = frameWord v 0x00 ↔ frameB0 w &&& m = v := by
  simp [masked_frameWord]

theorem writeFlag_even_iff (b : Byte) : (b.getLsbD 7 && !b.getLsbD 0) = true ↔ b &&& 0x81 = 0x80 := by
  revert b; decide

theorem writeFlag_odd_iff (b : Byte) : (b.getLsbD 7 && b.getLsbD 0) = true ↔ b &&& 0x81 = 0x81 := by
  revert b; decide

theorem isSome_ite_some {p : Prop} [Decidable p] (i : Instr) :
    (if p then some i else none).isSome = true ↔ p := by
  split <;> simp [*]

/-- Settles O6: the decoder's conditions on the two bytes are the masks and matches of the rows. -/
theorem frameWordsMatchTheirRow : Obligations.FrameWordsMatchTheirRow := by
  intro w
  simp only [decodeFrame, isSome_ite_some, readFrame_iff_masked]
  refine ⟨?_, trivial, trivial, ?_, ?_, trivial, trivial⟩
  · have hb : frameB0 w &&& 0xFF = frameB0 w := BitVec.and_allOnes
    rw [← hb]
    exact masked_frameB0.symm
  · exact (writeFlag_even_iff (frameB0 w)).trans masked_frameB0.symm
  · exact (writeFlag_odd_iff (frameB0 w)).trans masked_frameB0.symm

/-! ### Fixed words and bytes -/

/-- Settles O1: each word is the encoding of its instruction. -/
theorem wordsOfTheTableDecode : Obligations.WordsOfTheTableDecode :=
  ⟨decodeUndoesEncode (.readReg 0x03 0x12) rfl, decodeUndoesEncode (.writeReg 0x03 0x10 0x1234) rfl,
    decodeUndoesEncode .readBurst rfl, decodeUndoesEncode (.resetDev 10) rfl,
    decodeUndoesEncode (.scaleAccl 0xFFFF) rfl, decodeUndoesEncode (.scaleDvel 100) rfl,
    decodeUndoesEncode (.psel 0x03) rfl, decodeUndoesEncode (.raddr 0x12) rfl, decodeUndoesEncode .rdata rfl,
    decodeUndoesEncode (.wlo 0x10 0x34) rfl, decodeUndoesEncode (.whi 0x10 0x12) rfl,
    decodeUndoesEncode (.breq 0x0A) rfl, decodeUndoesEncode (.bend 0x00) rfl⟩

/-- Settles O7, byte by byte. -/
theorem writeAddressBytesNeverWrap : Obligations.WriteAddressBytesNeverWrap := by
  unfold Obligations.WriteAddressBytesNeverWrap; decide

/-- Settles O8. -/
theorem receivedWordIsSigned : Obligations.ReceivedWordIsSigned := by
  intro r0 r1
  have hw : (assembleWord r0 r1).toNat = r0.toNat * 256 + r1.toNat := by
    rw [assembleWord, BitVec.toNat_append, ← Nat.shiftLeft_add_eq_or_of_lt r1.isLt, Nat.shiftLeft_eq]
  refine ⟨?_, BitVec.toInt_signExtend_of_le (by omega)⟩
  have h0 := r0.isLt
  have h1 := r1.isLt
  rw [s16, BitVec.toInt_eq_toNat_cond, hw]
  split <;> split <;> omega

/-- Settles O12. -/
theorem burstOffsetsAreReadRequests : Obligations.BurstOffsetsAreReadRequests :=
  fun c => ⟨rfl, burstTx_admitted c⟩

/-- Settles O13. -/
theorem statusCodesRoundTrip : Obligations.StatusCodesRoundTrip := by
  refine ⟨rfl, rfl, rfl, rfl, rfl, rfl, fun st => ?_, ?_⟩
  · cases st with
    | ok => rfl
    | refused c => cases c <;> rfl
    | fltTransport => rfl
  · intro c hc
    unfold statusOfCode
    split
    case h_7 => rfl
    all_goals omega

end Sys2Proof.Machine
end

section
/-! SUPPORT. The read frames as operations (R66, R84, R102): they are started as they are or placed, complete, and leave
the device's page unless the placing breaks off a page select (R165; log 7). -/

namespace Sys2Proof.Machine

/-! ### A read frame that is started -/

/-- `p` is the device's page of `s`, or an open one where `s` has a page select pending (R165). -/
abbrev KeepsOrOpensPage (s : State) (p : Byte) : Prop :=
  (s.fsm ≠ .psel → s.fsm ≠ .pselWait → p = s.devPage) ∧
  (s.fsm = .psel ∨ s.fsm = .pselWait → ∃ d : Nat, p = Config.pageDraw d)

/-- Placing an access frame leaves the device's page, or opens it where it breaks off a page select (R165). -/
theorem placeFrame_devPage {i : Instr} {s : State} (hi : (placeFrame i s).devPage = (breakSelect s).devPage) :
    KeepsOrOpensPage s (placeFrame i s).devPage := by
  rw [hi]
  exact ⟨fun h h' => by rw [breakSelect_of_ne h h'], fun h => ⟨s.pageDraws, by rw [breakSelect_of_pending h]⟩⟩

theorem keepsOrOpensPage_self {s : State} (h : s.fsm ≠ .psel) (h' : s.fsm ≠ .pselWait) :
    KeepsOrOpensPage s s.devPage :=
  ⟨fun _ _ => rfl, fun k => (k.elim h h').elim⟩

/-- A started read frame completes, and leaves the device on the page the start left it on (R28, R83, R164). -/
theorem Starts.readFrame {x : Fsm} {off : Byte} {s u : State} (h : Starts x s u) (hp : KeepsOrOpensPage s u.devPage)
    (ho : admittedOff off = true) (hr : s.Responsive) (he : s.NoReportedError) :
    ∃ r0 r1, Machine.framePhase x off 0x00 u = afterStall (stallOf x) (framed x off 0x00 r0 r1 u) ∧
      s.Receives (received r0 r1 s) ∧
      (s.devRecovering = false →
        (afterStall (stallOf x) (framed x off 0x00 r0 r1 u)).devRecovering = false ∧
        KeepsOrOpensPage s (afterStall (stallOf x) (framed x off 0x00 r0 r1 u)).devPage) := by
  obtain ⟨r0, r1, e, hrx⟩ := h.framePhase (b0 := off) (b1 := 0x00) hr he
  obtain ⟨h80, h81⟩ := admitted_ne_select off ho
  refine ⟨r0, r1, e, hrx, fun hd => ?_⟩
  have hu := h.devRecovering.trans hd
  rw [afterStall_devRecovering, afterStall_devPage, framed, latchedPage_turns 4 hu, if_neg h80, if_neg h81]
  exact ⟨turns_devRecovering_false 6 hu, hp⟩

theorem placeFrame_raddr_starts (off : Byte) (s : State) : Starts .raddr s (placeFrame (.raddr off) s) := by
  rw [placeFrame, breakSelect_eq]; exact ⟨rfl, rfl, rfl, rfl, rfl, rfl, rfl⟩

theorem placeFrame_rdata_starts (s : State) : Starts .rdata s (placeFrame .rdata s) := by
  rw [placeFrame, breakSelect_eq]; exact ⟨rfl, rfl, rfl, rfl, rfl, rfl, rfl⟩

theorem placeFrame_breq_starts (off : Byte) (s : State) : Starts .bprime s (placeFrame (.breq off) s) := by
  rw [placeFrame, breakSelect_eq]; exact ⟨rfl, rfl, rfl, rfl, rfl, rfl, rfl⟩

theorem placeFrame_bend_starts (off : Byte) (s : State) : Starts .bcap s (placeFrame (.bend off) s) := by
  rw [placeFrame, breakSelect_eq]; exact ⟨rfl, rfl, rfl, rfl, rfl, rfl, rfl⟩

/-! ### READ_REG's frames -/

/-- Settles O38: each frame is started, as it is or placed, and completes. -/
theorem readFramesAddressThenData : Obligations.ReadFramesAddressThenData := by
  intro s hr he
  constructor
  · intro off ho
    obtain ⟨r0, r1, e, hrx, hpage⟩ := (startFrame_starts (placeFrame_raddr_starts off s)).readFrame
      (startFrame_devPage (by simp) (by simp) rfl) ho hr he
    refine ⟨received r0 r1 s, _, by rw [exec, execRaddr, e], hrx, ?_, hpage⟩
    unfold startFrame
    cases h : atFrame .raddr s with
    | true => simp [framed, afterStall, stallOf, goto, captures, stallUs, received]
    | false =>
      rw [placeFrame, breakSelect_eq]
      simp [framed, afterStall, stallOf, goto, captures, stallUs, received]
  · obtain ⟨r0, r1, e, hrx, hpage⟩ := (startFrame_starts (placeFrame_rdata_starts s)).readFrame
      (startFrame_devPage (by simp) (by simp) rfl) (off := 0x00) rfl hr he
    refine ⟨received r0 r1 s, _, by rw [exec, execRdata, e], hrx, ?_, hpage⟩
    unfold startFrame
    cases h : atFrame .rdata s with
    | true => simp [framed, afterStall, stallOf, goto, captures, stallUs, received, captureRdata]
    | false =>
      rw [placeFrame, breakSelect_eq]
      simp [framed, afterStall, stallOf, goto, captures, stallUs, received, captureRdata]

/-! ### READ_BURST's frames -/

/-- A capture before the ninth: the word is kept, and the next capture follows (R102). -/
theorem afterStall_bcapWait_next {u : State} (h1 : 1 ≤ u.bk.toNat) (h8 : u.bk.toNat ≤ 8) :
    afterStall .bcapWait u =
      goto .bcap { u with bbuf := u.bbuf.set (u.bk.toNat - 1) (assembleWord u.rx0 u.rx1), bk := u.bk + 1 } := by
  have hk : (u.bk - 1).toNat = u.bk.toNat - 1 := by bv_omega
  have hn : (captureBurst u).bk.toNat < 9 := Nat.lt_succ_of_le h8
  rw [afterStall, nextCapture, if_pos hn, captureBurst, hk]

/-- The ninth capture: the word is the last field, and the response follows (R102). -/
theorem afterStall_bcapWait_last {u : State} (h : u.bk = 9) :
    afterStall .bcapWait u = goto .resp { u with bbuf := { u.bbuf with temp := assembleWord u.rx0 u.rx1 } } := by
  have hn : ¬(captureBurst u).bk.toNat < 9 := by simp [h]
  rw [afterStall, nextCapture, if_neg hn, captureBurst, h]
  rfl

/-- At a capture before the last, the request frame is that capture frame. -/
theorem exec_breq_capture {off : Byte} {s : State} (h : atFrame .bcap s = true) (hb : s.bk.toNat ≤ 8) :
    exec (.breq off) s = .next (framePhase .bcap off 0x00 s) := by
  have hx : s.fsm ≠ .bprime := by rw [(atFrame_iff.1 h).1]; simp
  simp [exec, execBreq, atBurstRequest, startFrame, h, hb, hx]

/-- Elsewhere it is the priming frame, placed if need be (log 7). -/
theorem exec_breq_prime {off : Byte} {s : State} (h : ¬(atFrame .bcap s = true ∧ s.bk.toNat ≤ 8)) :
    exec (.breq off) s = .next (framePhase .bprime off 0x00 (startFrame (atFrame .bprime s) (.breq off) s)) := by
  have hb : (atFrame .bcap s && decide (s.bk.toNat ≤ 8)) = false := by simpa using h
  have ha : atBurstRequest s = atFrame .bprime s := by rw [atBurstRequest, hb, Bool.or_false]
  have hx := (startFrame_starts (placeFrame_breq_starts off s)).fsm
  simp only [exec, execBreq, ha, hx, if_true]

/-- Settles O40: at a capture before the last the frame is that capture; elsewhere it is the priming frame, started as
it is or placed. -/
theorem burstRequestFrameCaptures : Obligations.BurstRequestFrameCaptures := by
  intro s off hr he ho
  by_cases hc : atFrame .bcap s = true ∧ s.bk.toNat ≤ 8
  · obtain ⟨hat, h8⟩ := hc
    obtain ⟨hx, hp, ha⟩ := atFrame_iff.1 hat
    obtain ⟨r0, r1, e, hrx, hpage⟩ := Starts.readFrame (x := .bcap) ⟨hx, hp, ha, rfl, rfl, rfl, rfl⟩
      (keepsOrOpensPage_self (by simp [hx]) (by simp [hx])) ho hr he
    refine ⟨received r0 r1 s, _, by rw [exec_breq_capture hat h8, e], hrx, hpage, fun hcap => ?_, fun hprim => ?_⟩
    · obtain ⟨-, -, -, h1, -⟩ := hcap
      rw [stallOf, afterStall_bcapWait_next (u := framed .bcap off 0x00 r0 r1 s) h1 h8]
      simp [framed, stallOf, goto, captures, stallUs, received]
    · obtain h | h | h | h := hprim
      · exact absurd hx h
      · exact absurd hp h
      · simp [ha] at h
      · omega
  · obtain ⟨r0, r1, e, hrx, hpage⟩ := (startFrame_starts (placeFrame_breq_starts off s)).readFrame
      (startFrame_devPage (by simp) (by simp) rfl) ho hr he
    refine ⟨received r0 r1 s, _, by rw [exec_breq_prime hc, e], hrx, hpage, fun hcap => ?_, fun _ => ?_⟩
    · obtain ⟨hx, hp, ha, -, h8⟩ := hcap
      exact absurd ⟨atFrame_iff.2 ⟨hx, hp, ha⟩, h8⟩ hc
    · unfold startFrame
      cases h : atFrame .bprime s with
      | true => simp [framed, afterStall, stallOf, goto, captures, stallUs, received]
      | false =>
        rw [placeFrame, breakSelect_eq]
        simp [framed, afterStall, stallOf, goto, captures, stallUs, received]

/-- Settles O41: the frame is the ninth capture, as it is or placed. -/
theorem burstEndFrameCapturesTheLastField : Obligations.BurstEndFrameCapturesTheLastField := by
  intro s off hr he ho hb
  cases hat : atFrame .bcap s && decide (8 < s.bk.toNat) with
  | true =>
    obtain ⟨hf, h8⟩ : atFrame .bcap s = true ∧ 8 < s.bk.toNat := by simpa using hat
    obtain ⟨hx, hp, ha⟩ := atFrame_iff.1 hf
    have hk : s.bk = 9 := BitVec.eq_of_toNat_eq (by have := hb.resolve_left (not_not_intro hx); simp; omega)
    obtain ⟨r0, r1, e, hrx, hpage⟩ := Starts.readFrame (x := .bcap) ⟨hx, hp, ha, rfl, rfl, rfl, rfl⟩
      (keepsOrOpensPage_self (by simp [hx]) (by simp [hx])) ho hr he
    refine ⟨received r0 r1 s, _, by rw [exec, execBend, hat, startFrame, if_pos rfl, e], hrx, ?_, hpage⟩
    rw [stallOf, afterStall_bcapWait_last (u := framed .bcap off 0x00 r0 r1 s) hk]
    simp [framed, stallOf, goto, captures, stallUs, received, hk]
  | false =>
    obtain ⟨r0, r1, e, hrx, hpage⟩ := (placeFrame_bend_starts off s).readFrame (placeFrame_devPage rfl) ho hr he
    refine ⟨received r0 r1 s, _, by rw [exec, execBend, hat, startFrame, if_neg Bool.false_ne_true, e], hrx, ?_, hpage⟩
    rw [stallOf, afterStall_bcapWait_last rfl, placeFrame, breakSelect_eq]
    simp [framed, stallOf, goto, captures, stallUs, received]

end Sys2Proof.Machine
end

section
/-! SUPPORT. The scaling unit's floats: how large a rounded value can be, and that its IEEE 754 bits encode it (R74,
R130). -/

namespace Sys2Proof.Machine

/-! ### Leading bits -/

theorem log2_mul_two_pow {n : Nat} (h : n ≠ 0) (k : Nat) : (n * 2 ^ k).log2 = n.log2 + k := by
  rw [Nat.log2_eq_iff (by positivity), Nat.pow_add, show n.log2 + k + 1 = n.log2 + 1 + k by omega, Nat.pow_add]
  exact ⟨Nat.mul_le_mul_right _ (Nat.log2_self_le h), Nat.mul_lt_mul_of_pos_right Nat.lt_log2_self (by positivity)⟩

theorem log2_mul_bounds {a b : Nat} (ha : a ≠ 0) (hb : b ≠ 0) :
    a.log2 + b.log2 ≤ (a * b).log2 ∧ (a * b).log2 ≤ a.log2 + b.log2 + 1 := by
  have hab : a * b ≠ 0 := Nat.mul_ne_zero ha hb
  constructor
  · rw [Nat.le_log2 hab, Nat.pow_add]
    exact Nat.mul_le_mul (Nat.log2_self_le ha) (Nat.log2_self_le hb)
  · rw [← Nat.lt_add_one_iff, Nat.log2_lt hab,
      show a.log2 + b.log2 + 1 + 1 = (a.log2 + 1) + (b.log2 + 1) by omega, Nat.pow_add]
    exact Nat.mul_lt_mul'' Nat.lt_log2_self Nat.lt_log2_self

/-! ### One rounding (R130) -/

section
variable {p n d : Nat} {k : Int}

theorem scaledNum_lt (hd : d ≠ 0) (h : (n.log2 : Int) + 1 + k ≤ p + d.log2) :
    scaledNum n k < scaledDen d k * 2 ^ p := by
  calc scaledNum n k < 2 ^ (n.log2 + 1) * 2 ^ k.toNat :=
        Nat.mul_lt_mul_of_pos_right Nat.lt_log2_self (by positivity)
    _ ≤ 2 ^ d.log2 * 2 ^ (-k).toNat * 2 ^ p := by
        rw [← Nat.pow_add, ← Nat.pow_add, ← Nat.pow_add]
        exact Nat.pow_le_pow_right (by omega) (by omega)
    _ ≤ scaledDen d k * 2 ^ p := Nat.mul_le_mul_right _ (Nat.mul_le_mul_right _ (Nat.log2_self_le hd))

theorem scaledDen_le (hn : n ≠ 0) (h : (p : Int) + (d.log2 + 1) ≤ n.log2 + k) :
    scaledDen d k * 2 ^ p ≤ scaledNum n k := by
  calc scaledDen d k * 2 ^ p ≤ 2 ^ (d.log2 + 1) * 2 ^ (-k).toNat * 2 ^ p :=
        Nat.mul_le_mul_right _ (Nat.mul_le_mul_right _ Nat.lt_log2_self.le)
    _ ≤ 2 ^ n.log2 * 2 ^ k.toNat := by
        rw [← Nat.pow_add, ← Nat.pow_add, ← Nat.pow_add]
        exact Nat.pow_le_pow_right (by omega) (by omega)
    _ ≤ scaledNum n k := Nat.mul_le_mul_right _ (Nat.log2_self_le hn)

theorem scaledNum_succ_lt (h : scaledNum n k < scaledDen d k * 2 ^ p) :
    scaledNum n (k + 1) < scaledDen d (k + 1) * 2 ^ (p + 1) := by
  unfold scaledNum scaledDen at *
  obtain hk | hk := le_or_gt 0 k
  · rw [show (k + 1).toNat = k.toNat + 1 by omega, show (-(k + 1)).toNat = (-k).toNat by omega, pow_succ, pow_succ,
      ← mul_assoc, ← mul_assoc]
    exact Nat.mul_lt_mul_of_pos_right h (by omega)
  · rw [show (-k).toNat = (-(k + 1)).toNat + 1 by omega, show k.toNat = (k + 1).toNat by omega] at h
    exact h.trans_eq (by ring)

/-- The shift makes up for the leading bits, or is one more where that is too little. -/
theorem normShift_cases (p n d : Nat) (k : Int) (hk : k = (p : Int) - 1 - (n.log2 - d.log2)) :
    (scaledDen d k * 2 ^ (p - 1) ≤ scaledNum n k ∧ normShift p n d = k) ∨
    (scaledNum n k < scaledDen d k * 2 ^ (p - 1) ∧ normShift p n d = k + 1) := by
  unfold normShift
  rw [← hk]
  dsimp only
  split
  next h => exact .inl ⟨h, rfl⟩
  next h => exact .inr ⟨not_le.1 h, rfl⟩

/-- The scaled rational lies in `[2 ^ (p - 1), 2 ^ p)`. -/
theorem normShift_spec (hp : 1 ≤ p) (hn : n ≠ 0) (hd : d ≠ 0) :
    scaledDen d (normShift p n d) * 2 ^ (p - 1) ≤ scaledNum n (normShift p n d) ∧
    scaledNum n (normShift p n d) < scaledDen d (normShift p n d) * 2 ^ p := by
  obtain ⟨h, hk⟩ | ⟨h, hk⟩ := normShift_cases p n d _ rfl
  · exact hk ▸ ⟨h, scaledNum_lt hd (by omega)⟩
  · have hlt := scaledNum_succ_lt h
    rw [Nat.sub_add_cancel hp] at hlt
    exact hk ▸ ⟨scaledDen_le hn (by omega), hlt⟩

end

theorem rneDiv_bounds {n d a b : Nat} (ha : d * a ≤ n) (hb : n < d * b) : a ≤ rneDiv n d ∧ rneDiv n d ≤ b := by
  have hd : 0 < d := Nat.pos_of_ne_zero fun h => by simp [h] at hb
  have h1 : a ≤ n / d := (Nat.le_div_iff_mul_le hd).2 (by rwa [mul_comm])
  have h2 : n / d < b := Nat.div_lt_of_lt_mul hb
  unfold rneDiv
  split <;> omega

/-! ### How large a rounded value is -/

/-- The exponent of the leading bit. -/
def Dyad.expo (x : Dyad) : Int := x.m.natAbs.log2 + x.e

/-- Zero, or a value with `p` significant bits (or the next power of two) and the exponent of its leading bit from `lo`
to `hi`. -/
def Dyad.Rounded (p : Nat) (lo hi : Int) (x : Dyad) : Prop :=
  x = ⟨0, 0⟩ ∨ (2 ^ (p - 1) ≤ x.m.natAbs ∧ x.m.natAbs ≤ 2 ^ p ∧ lo ≤ x.expo ∧ x.expo ≤ hi)

theorem Dyad.Rounded.mono {p : Nat} {lo hi lo' hi' : Int} {x : Dyad} (h : x.Rounded p lo hi) (hl : lo' ≤ lo)
    (hh : hi ≤ hi') : x.Rounded p lo' hi' :=
  h.imp_right fun ⟨h1, h2, h3, h4⟩ => ⟨h1, h2, hl.trans h3, h4.trans hh⟩

theorem log2_of_significand {p a : Nat} (h1 : 2 ^ (p - 1) ≤ a) (h2 : a ≤ 2 ^ p) : p - 1 ≤ a.log2 ∧ a.log2 ≤ p := by
  have ha : a ≠ 0 := by have := Nat.two_pow_pos (p - 1); omega
  refine ⟨(Nat.le_log2 ha).2 h1, ?_⟩
  rw [← Nat.lt_succ_iff, Nat.log2_lt ha, pow_succ]
  have := Nat.two_pow_pos p
  omega

section
variable {p : Nat} {lo hi lo' hi' : Int} {x y : Dyad}

theorem Dyad.Rounded.log2 (hx : x.Rounded p lo hi) (h0 : x.m ≠ 0) :
    p - 1 ≤ x.m.natAbs.log2 ∧ x.m.natAbs.log2 ≤ p ∧ lo ≤ x.m.natAbs.log2 + x.e ∧ x.m.natAbs.log2 + x.e ≤ hi := by
  obtain rfl | ⟨h1, h2, h3, h4⟩ := hx
  · exact absurd rfl h0
  · exact ⟨(log2_of_significand h1 h2).1, (log2_of_significand h1 h2).2, h3, h4⟩

/-- A rounding leaves the exponent of the leading bit within one. -/
theorem roundRat_rounded {n : Int} {d : Nat} (hp : 1 ≤ p) (hd : d ≠ 0)
    (hn : n ≠ 0 → lo + 1 ≤ (n.natAbs.log2 : Int) - d.log2 ∧ (n.natAbs.log2 : Int) - d.log2 + 1 ≤ hi) :
    (roundRat p n d).Rounded p lo hi := by
  unfold roundRat
  split
  · exact .inl rfl
  next h0 =>
    obtain ⟨hlo, hhi⟩ := hn h0
    obtain ⟨hl, hu⟩ := normShift_spec hp (Int.natAbs_ne_zero.2 h0) hd
    obtain ⟨h1, h2⟩ := rneDiv_bounds hl hu
    obtain ⟨g1, g2⟩ := log2_of_significand h1 h2
    have hk := normShift_cases p n.natAbs d _ rfl
    have hm : ∀ r : Nat, (n.sign * (r : Int)).natAbs = r := fun r => by
      rw [Int.natAbs_mul, Int.natAbs_sign_of_ne_zero h0, one_mul, Int.natAbs_natCast]
    refine .inr ⟨by rw [hm]; exact h1, by rw [hm]; exact h2, ?_, ?_⟩
    all_goals
      simp only [Dyad.expo, hm]
      omega

theorem dyadNum_log2 (h : x.m ≠ 0) : (dyadNum x).natAbs.log2 = x.m.natAbs.log2 + x.e.toNat := by
  rw [dyadNum, Int.natAbs_mul, Int.natAbs_pow, show (2 : Int).natAbs = 2 from rfl,
    log2_mul_two_pow (Int.natAbs_ne_zero.2 h)]

theorem dyadNum_eq_zero : dyadNum x = 0 ↔ x.m = 0 := by simp [dyadNum]

theorem dyadDen_mul_log2 (x y : Dyad) : (dyadDen x * dyadDen y).log2 = (-x.e).toNat + (-y.e).toNat := by
  rw [dyadDen, dyadDen, ← Nat.pow_add, Nat.log2_two_pow]

theorem dyadDen_mul_ne_zero (x y : Dyad) : dyadDen x * dyadDen y ≠ 0 := by
  unfold dyadDen; positivity

theorem fmul_rounded (hp : 1 ≤ p) (hx : x.Rounded p lo hi) (hy : y.Rounded p lo' hi') :
    (fmul p x y).Rounded p (lo + lo' - 1) (hi + hi' + 2) := by
  refine roundRat_rounded hp (dyadDen_mul_ne_zero x y) fun h0 => ?_
  obtain ⟨hx0, hy0⟩ := mul_ne_zero_iff.1 h0
  obtain ⟨-, -, x1, x2⟩ := hx.log2 (mt dyadNum_eq_zero.2 hx0)
  obtain ⟨-, -, y1, y2⟩ := hy.log2 (mt dyadNum_eq_zero.2 hy0)
  obtain ⟨h1, h2⟩ := log2_mul_bounds (Int.natAbs_ne_zero.2 hx0) (Int.natAbs_ne_zero.2 hy0)
  rw [dyadNum_log2 (mt dyadNum_eq_zero.2 hx0), dyadNum_log2 (mt dyadNum_eq_zero.2 hy0), ← Int.natAbs_mul] at h1 h2
  rw [dyadDen_mul_log2]
  omega

/-- The numerator over a common denominator `2 ^ k`. -/
theorem dyadNum_mul_lt (hx : x.Rounded p lo hi) (hh : 0 ≤ hi) (k : Nat) :
    (dyadNum x * (2 : Int) ^ k).natAbs < 2 ^ (hi.toNat + (-x.e).toNat + k + 1) := by
  by_cases h0 : x.m = 0
  · simp [dyadNum, h0]
  · obtain ⟨-, -, -, h2⟩ := hx.log2 h0
    have hn : (dyadNum x).natAbs ≠ 0 := Int.natAbs_ne_zero.2 (mt dyadNum_eq_zero.1 h0)
    rw [Int.natAbs_mul, Int.natAbs_pow, show (2 : Int).natAbs = 2 from rfl, ← Nat.log2_lt (by positivity),
      log2_mul_two_pow hn, dyadNum_log2 h0]
    omega

/-- The sum of two values is zero or at least the product of their units. -/
theorem fadd_rounded (hp : 1 ≤ p) (hh : 0 ≤ hi) (hl : lo ≤ p) (hx : x.Rounded p lo hi) (hy : y.Rounded p lo hi) :
    (fadd p x y).Rounded p (2 * lo - 2 * p - 1) (hi + 2) := by
  have unit : ∀ z : Dyad, z.Rounded p lo hi → (-z.e).toNat ≤ p - lo := by
    intro z hz
    by_cases h0 : z.m = 0
    · obtain rfl | ⟨h1, -⟩ := hz
      · simpa using hl
      · rw [h0] at h1; have := Nat.two_pow_pos (p - 1); simp at h1
    · obtain ⟨-, h1, h2, -⟩ := hz.log2 h0
      omega
  have hux := unit x hx
  have huy := unit y hy
  refine roundRat_rounded hp (dyadDen_mul_ne_zero x y) fun h0 => ?_
  have hlt : (dyadNum x * dyadDen y + dyadNum y * dyadDen x).natAbs <
      2 ^ (hi.toNat + (-x.e).toNat + (-y.e).toNat + 1 + 1) := by
    have h1 := dyadNum_mul_lt hx hh (-y.e).toNat
    have h2 := dyadNum_mul_lt hy hh (-x.e).toNat
    rw [show hi.toNat + (-y.e).toNat + (-x.e).toNat + 1 = hi.toNat + (-x.e).toNat + (-y.e).toNat + 1 by omega] at h2
    have h3 := Int.natAbs_add_le (dyadNum x * dyadDen y) (dyadNum y * dyadDen x)
    rw [pow_succ]
    simp only [dyadDen, Nat.cast_pow, Nat.cast_ofNat] at h1 h2 h3 ⊢
    omega
  rw [← Nat.log2_lt (Int.natAbs_ne_zero.2 h0)] at hlt
  rw [dyadDen_mul_log2]
  omega

end

/-! ### How large a scaled value is -/

/-- Constants small enough that no scaling result leaves the normal range. -/
structure ScaleConst.Modest (c : ScaleConst) : Prop where
  num_ne : c.num ≠ 0
  den_ne : c.den ≠ 0
  num_lt : c.num < 2 ^ 17
  den_lt : c.den < 2 ^ 17
  off_lt : c.off < 2 ^ 17

theorem log2_le_of_lt {n k : Nat} (h : n < 2 ^ (k + 1)) : n.log2 ≤ k := by
  by_cases h0 : n = 0
  · simp [h0]
  · exact Nat.lt_succ_iff.1 ((Nat.log2_lt h0).2 h)

theorem s16_natAbs_le (raw : Word) : (s16 raw).natAbs ≤ 2 ^ 15 := by
  have h1 := BitVec.toInt_lt (x := raw)
  have h2 := BitVec.le_toInt (x := raw)
  unfold s16
  omega

/-- Every result of a scaling request is zero or far inside the normal range of both formats (R130; log 17): the raw
word and the constants have at most 17 bits, and each rounding moves the leading bit by one at most. -/
theorem scale_rounded {fmt : ScaleFmt} {c : ScaleConst} (hc : c.Modest) (raw : Word) :
    (scale fmt c raw).Rounded (fmtPrecision fmt) (-39 - 2 * fmtPrecision fmt) 37 := by
  have hp : 1 ≤ fmtPrecision fmt := by cases fmt <;> decide
  obtain ⟨num_ne, den_ne, num_lt, den_lt, off_lt⟩ := hc
  have hnum := log2_le_of_lt num_lt
  have hden := log2_le_of_lt den_lt
  have hoff := log2_le_of_lt off_lt
  have hraw : (s16 raw).natAbs.log2 ≤ 15 := log2_le_of_lt (by have := s16_natAbs_le raw; omega)
  have one : Nat.log2 1 = 0 := Nat.log2_two_pow (n := 0)
  have hx : (roundRat (fmtPrecision fmt) (s16 raw) 1).Rounded (fmtPrecision fmt) (-1) 16 :=
    roundRat_rounded hp one_ne_zero fun _ => by omega
  have hk : (roundRat (fmtPrecision fmt) c.num c.den).Rounded (fmtPrecision fmt) (-17) 17 :=
    roundRat_rounded hp den_ne fun _ => by rw [Int.natAbs_natCast]; omega
  have hy := fmul_rounded hp hx hk
  have ho : (roundRat (fmtPrecision fmt) c.off 1).Rounded (fmtPrecision fmt) (-1) 17 :=
    roundRat_rounded hp one_ne_zero fun _ => by rw [Int.natAbs_natCast]; omega
  unfold scale
  split
  · exact hy.mono (by omega) (by omega)
  · exact (fadd_rounded hp (by omega) (by omega) (hy.mono (lo' := -19) (hi' := 35) (by omega) (by omega))
      (ho.mono (by omega) (by omega))).mono (by omega) (by omega)

/-! ### IEEE 754 bits -/

/-- The value of bits laid out as sign, exponent and fraction. -/
theorem ieeeValue_fields {q bias w s expo frac : Nat} (hs : s ≤ 1) (h0 : expo ≠ 0) (he : expo < 2 ^ w)
    (hf : frac < 2 ^ q) :
    s * 2 ^ (w + q) + expo * 2 ^ q + frac < 2 ^ (w + q + 1) ∧
    ieeeValue (q + 1) bias (w + q) (s * 2 ^ (w + q) + expo * 2 ^ q + frac) =
      (if s = 1 then -1 else 1) * ((2 ^ q + frac : Nat) : ℚ) * (2 : ℚ) ^ ((expo : Int) - bias - q) := by
  have hq := Nat.two_pow_pos q
  have hlow : frac + expo * 2 ^ q < 2 ^ (w + q) := by
    calc frac + expo * 2 ^ q < (expo + 1) * 2 ^ q := by rw [add_mul]; omega
      _ ≤ 2 ^ (w + q) := by rw [Nat.pow_add]; exact Nat.mul_le_mul_right _ he
  have hbits : s * 2 ^ (w + q) + expo * 2 ^ q + frac = frac + expo * 2 ^ q + s * 2 ^ (w + q) := by ring
  have hfrac : (frac + expo * 2 ^ q + s * 2 ^ (w + q)) % 2 ^ q = frac := by
    rw [Nat.pow_add, ← mul_assoc, Nat.add_mul_mod_self_right, Nat.add_mul_mod_self_right, Nat.mod_eq_of_lt hf]
  have hexpo : (frac + expo * 2 ^ q) / 2 ^ q = expo := by
    rw [Nat.add_mul_div_right _ _ hq, Nat.div_eq_of_lt hf, zero_add]
  have hsign : (frac + expo * 2 ^ q + s * 2 ^ (w + q)) / 2 ^ (w + q) = s := by
    rw [Nat.add_mul_div_right _ _ (by positivity), Nat.div_eq_of_lt hlow, zero_add]
  have hrest : (frac + expo * 2 ^ q + s * 2 ^ (w + q)) % 2 ^ (w + q) = frac + expo * 2 ^ q := by
    rw [Nat.add_mul_mod_self_right, Nat.mod_eq_of_lt hlow]
  rw [hbits]
  constructor
  · have := Nat.mul_le_mul_right (2 ^ (w + q)) hs
    rw [pow_succ]
    omega
  · simp only [ieeeValue, Nat.add_sub_cancel, hsign, hrest, hexpo, hfrac, h0, false_and, if_false]
    push_cast
    ring_nf

/-- A significand has its leading bit at place `q`, and only its place value moves. -/
theorem significand_spec {q a : Nat} (h1 : 2 ^ q ≤ a) (h2 : a ≤ 2 ^ (q + 1)) :
    2 ^ q ≤ significand (q + 1) a ∧ significand (q + 1) a < 2 ^ (q + 1) ∧
    (significand (q + 1) a : ℚ) * (2 : ℚ) ^ ((a.log2 : Int) - q) = a := by
  unfold significand
  obtain rfl | h2 := h2.eq_or_lt
  · rw [Nat.log2_two_pow, if_neg (show ¬q + 1 ≤ q + 1 - 1 by omega), Nat.add_sub_cancel,
      Nat.add_sub_cancel_left, pow_one, pow_succ, Nat.mul_div_cancel _ two_pos]
    refine ⟨le_rfl, by have := Nat.two_pow_pos q; omega, ?_⟩
    simp
  · have ha : a ≠ 0 := by have := Nat.two_pow_pos q; omega
    rw [(Nat.log2_eq_iff ha).2 ⟨h1, h2⟩, if_pos (show q ≤ q + 1 - 1 by omega)]
    simp [h1, h2]

/-- The width of the exponent field. -/
def fmtExpoBits : ScaleFmt → Nat
  | .binary32 => 8
  | .binary64 => 11

/-- The bits of a nonzero value, laid out as sign, exponent and fraction. -/
theorem floatBits_fields {fmt : ScaleFmt} {q : Nat} {x : Dyad} (hp : fmtPrecision fmt = q + 1) (h0 : x.m ≠ 0) :
    floatBits fmt x = (if x.m < 0 then 1 else 0) * 2 ^ fmtSignBit fmt +
      (x.expo + (fmtBias fmt : Int)).toNat * 2 ^ q + (significand (q + 1) x.m.natAbs - 2 ^ q) := by
  rw [floatBits, if_neg h0, hp, ite_mul, one_mul, zero_mul]
  rfl

/-- The sign and the magnitude of a value. -/
theorem sign_mul_natAbs (m : Int) : (if (if m < 0 then 1 else 0) = 1 then (-1 : ℚ) else 1) * (m.natAbs : ℚ) = m := by
  rw [Nat.cast_natAbs, Int.cast_abs]
  by_cases h : m < 0
  · simp [h, abs_of_neg (Int.cast_lt_zero.2 h : (m : ℚ) < 0)]
  · simp [h, abs_of_nonneg (Int.cast_nonneg (not_lt.1 h) : (0 : ℚ) ≤ m)]

/-- The bits of a rounded value in the normal range encode it. -/
theorem ieeeValue_floatBits {fmt : ScaleFmt} {lo hi : Int} {x : Dyad} (hx : x.Rounded (fmtPrecision fmt) lo hi)
    (hlo : 1 ≤ lo + fmtBias fmt) (hhi : hi + fmtBias fmt < 2 ^ fmtExpoBits fmt) :
    floatBits fmt x < 2 ^ (fmtSignBit fmt + 1) ∧
    ieeeValue (fmtPrecision fmt) (fmtBias fmt) (fmtSignBit fmt) (floatBits fmt x) = x.val := by
  obtain rfl | ⟨h1, h2, h3, h4⟩ := hx
  · exact ⟨by simp [floatBits], by simp [floatBits, ieeeValue, Dyad.val]⟩
  obtain ⟨q, hp, hs⟩ : ∃ q, fmtPrecision fmt = q + 1 ∧ fmtSignBit fmt = fmtExpoBits fmt + q := by
    cases fmt
    · exact ⟨23, rfl, rfl⟩
    · exact ⟨52, rfl, rfl⟩
  rw [hp, Nat.add_sub_cancel] at h1
  rw [hp] at h2
  have h0 : x.m ≠ 0 := by
    intro h; rw [h] at h1; have := Nat.two_pow_pos q; simp at h1
  obtain ⟨g1, g2, g3⟩ := significand_spec h1 h2
  have hE : ((x.expo + fmtBias fmt).toNat : Int) = x.expo + fmtBias fmt := Int.toNat_of_nonneg (by omega)
  obtain ⟨hbits, hval⟩ := ieeeValue_fields (q := q) (bias := fmtBias fmt) (w := fmtExpoBits fmt)
    (s := if x.m < 0 then 1 else 0) (expo := (x.expo + fmtBias fmt).toNat)
    (frac := significand (q + 1) x.m.natAbs - 2 ^ q) (by split <;> omega) (by omega)
    (by zify; rw [hE]; omega) (by rw [pow_succ] at g2; omega)
  rw [hp, floatBits_fields hp h0, hs]
  refine ⟨hbits, hval.trans ?_⟩
  have hexp : ((x.expo + fmtBias fmt).toNat : Int) - fmtBias fmt - q = (x.m.natAbs.log2 - q) + x.e := by
    rw [hE, Dyad.expo]; ring
  rw [Nat.add_sub_cancel' g1, hexp, zpow_add₀ two_ne_zero, Dyad.val, ← sign_mul_natAbs x.m, ← g3]
  ring

/-! ### The payload -/

theorem constants_modest {c : ScaleConst}
    (h : c = acclConst ∨ c = gyroConst ∨ c = tempConst ∨ c = dangConst ∨ c = dvelConst) : c.Modest := by
  obtain rfl | rfl | rfl | rfl | rfl := h <;> constructor <;> decide

/-- The bits of a scaling result encode it, in both formats. -/
theorem scale_floatBits {c : ScaleConst} (hc : c.Modest) (fmt : ScaleFmt) (raw : Word) :
    floatBits fmt (scale fmt c raw) < 2 ^ (fmtSignBit fmt + 1) ∧
    ieeeValue (fmtPrecision fmt) (fmtBias fmt) (fmtSignBit fmt) (floatBits fmt (scale fmt c raw)) =
      (scale fmt c raw).val :=
  ieeeValue_floatBits (scale_rounded hc raw) (by cases fmt <;> decide) (by cases fmt <;> decide)

/-- Settles O53: no result leaves the normal range, where the bits encode the value. -/
theorem payloadBitsEncodeTheValue : Obligations.PayloadBitsEncodeTheValue := by
  intro c raw hc
  obtain ⟨lt32, val32⟩ := scale_floatBits (constants_modest hc) .binary32 raw
  obtain ⟨lt64, val64⟩ := scale_floatBits (constants_modest hc) .binary64 raw
  refine ⟨⟨_, rfl, ?_⟩, ⟨_, rfl, ?_⟩⟩
  · rw [BitVec.toNat_ofNat, Nat.mod_eq_of_lt (b := 2 ^ 32) lt32]
    exact val32
  · rw [BitVec.toNat_ofNat, Nat.mod_eq_of_lt (b := 2 ^ 64) lt64]
    exact val64

end Sys2Proof.Machine
end

section
/-! SUPPORT. Where `cur_page` is written (R82, R121), and RESET_DEV to its end, after which the page cache is stale
(R120 to R123, R167). -/

namespace Sys2Proof.Machine

/-! ### The writes of `cur_page` -/

/-- The next event is the `CS(deassert)` of a page-select frame none of whose exchanges failed (R82). -/
def SelectEnds (s : State) : Prop := s.fsm = .psel ∧ s.fpos = .csOff ∧ s.aborting = false

/-- The next event is the `RST(deassert)` of a reset pulse (R120). -/
def PulseEnds (s : State) : Prop := s.fsm = .rst ∧ s.rpos = .lineOff

/-- Only the end of a page select and the end of a reset pulse write `cur_page` (R82, R121). -/
theorem Acted.curPage {s t : State} (h : Acted s t) (hf : ¬SelectEnds s) (hr : ¬PulseEnds s) :
    t.curPage = s.curPage := by
  cases h with
  | completes _ hp ha => exact if_neg fun hx => hf ⟨hx, hp, ha⟩
  | releases hx hp => exact absurd ⟨hx, hp⟩ hr
  | _ => simp

theorem tick_curPage {s : State} (hf : ¬SelectEnds s) (hr : ¬PulseEnds s) : (tick s).curPage = s.curPage := by
  rw [(tick_acted s).curPage (by simpa [SelectEnds] using hf) (by simpa [PulseEnds] using hr), hostTurn_curPage]

/-- The end of a page select is `CS(deassert)`, with the latched page (R81, R82). -/
theorem tick_of_selectEnds {s : State} (h : SelectEnds s) :
    tick s = csDeassert .psel 0x80 s.reqPage (hostTurn s) := by
  obtain ⟨hx, hp, ha⟩ := h
  rw [tick_csOff (by rw [hx]; rfl) hp, ha, hx, frameBytes_psel hx]; rfl

/-- The end of a reset pulse is `RST(deassert)` (R120). -/
theorem tick_of_pulseEnds {s : State} (h : PulseEnds s) : tick s = rstDeassert (hostTurn s) := by
  obtain ⟨hx, hp⟩ := h
  rw [tick, act_of_rst (by simpa using hx), resetAct]; simp [hp]

/-- Settles O27: the two writes of `cur_page` are the ends of a page select and of a reset pulse, and every other tick
keeps it. -/
theorem curPageIsWrittenAtTheDeassert : Obligations.CurPageIsWrittenAtTheDeassert := by
  refine ⟨fun s hx => ?_, fun s hx hp ha => ?_, fun s hx hp => ?_, fun s hx hr => ?_⟩
  · by_cases h : s.fpos = .csOff ∧ s.aborting = false
    · rw [if_pos h, tick_of_selectEnds ⟨hx, h⟩]; rfl
    · rw [if_neg h, tick_curPage (fun hf => h hf.2) (fun hr => by simp [hr.1] at hx)]
  · rw [tick_of_selectEnds ⟨hx, hp, ha⟩]
    exact ⟨rfl, by simp⟩
  · rw [tick_of_pulseEnds ⟨hx, hp⟩]; simp
  · exact tick_curPage (fun hf => hx hf.1) hr

/-! ### RESET_DEV to its end -/

/-- The state after a RESET_DEV of `ms` milliseconds and its response, from the idle block: the pulse is over and the
recovery window opens before the response (R120 to R123). -/
def resetDone (ms : Word) (s : State) : State :=
  respondResult (goto .resp
    { s with
      reqOp := 0x3, reqPage := 0x00, reqOff := 0x00, reqData := ms
      rstLine := false
      devPage := pagePulsed ms s, pageDraws := s.pageDraws + 1, devRecovering := true
      curPage := if s.cfg.resetResyncsPage then 0x00 else s.curPage
      timer := s.timer.tail, host := s.host.drop 6
      bus := s.bus ++ [.rst true, .waitMs ms.toNat, .rst false] })

/-- RESET_DEV with a timer that answers: the pulse in full, and the response (R120). -/
theorem exec_resetDev_of_idle {ms : Word} {s : State} (hs : s.fsm = .idle) (ht : timerEnds s = true) :
    exec (.resetDev ms) s = .next (resetDone ms s) := by
  have e : respondResult (pulseReset (accept (.resetDev ms) (checked s))) = resetDone ms s := by
    obtain ⟨dr, hc, -⟩ := exists_checked_eq s
    rw [hc, pulseReset_done rfl rfl rfl (by simpa [accept, timerEnds] using ht)]
    simp only [accept, goto, List.drop_drop]
    rfl
  simp only [exec, execResetDev, operate_of_idle hs, e]

section
variable (ms : Word) (s : State)

@[simp] theorem resetDone_fsm : (resetDone ms s).fsm = .idle := by rw [resetDone, respondResult_goto_resp]
@[simp] theorem resetDone_cfg : (resetDone ms s).cfg = s.cfg := by rw [resetDone, respondResult_goto_resp]
@[simp] theorem resetDone_xport : (resetDone ms s).xport = s.xport := by rw [resetDone, respondResult_goto_resp]
@[simp] theorem resetDone_timer : (resetDone ms s).timer = s.timer.tail := by rw [resetDone, respondResult_goto_resp]
@[simp] theorem resetDone_curPage : (resetDone ms s).curPage = if s.cfg.resetResyncsPage then 0x00 else s.curPage := by
  rw [resetDone, respondResult_goto_resp]
@[simp] theorem resetDone_devPage : (resetDone ms s).devPage = pagePulsed ms s := by
  rw [resetDone, respondResult_goto_resp]

end

/-- A read of the page in the cache, on a device that has recovered: a page hit, with the two frames of R84, that moves
neither the cache nor the device's page, be they the same or not (R86). -/
theorem readReg_pageHit {s : State} {page off : Byte} (hp : s.curPage = page) (hs : s.fsm = .idle)
    (ho : admittedOff off = true) (hr : s.Responsive) (he : s.NoReportedError) (hd : s.devRecovering = false) :
    ∃ (u : State) (a b c d : Byte), exec (.readReg page off) s = .next u ∧
      u.bus = s.bus ++ frameTrace off 0x00 a b s.cfg.tStallUs ++ frameTrace 0x00 0x00 c d s.cfg.tStallUs ∧
      u.curPage = page ∧ u.devPage = s.devPage := by
  subst hp
  obtain ⟨rx, u, eu, -, hu, hpage⟩ := readRegReturnsTheDataWord s s.curPage off hs ho hr he
  have hb := congrArg State.bus hu
  simp only [selectTrace, if_true, List.append_nil] at hb
  exact ⟨u, _, _, _, _, eu, hb, by rw [hu], by simpa using (hpage hd).2⟩

/-- Settles O47: the reset moves the device's page and not the cache, so the read of the cached page is a page hit and
stays on the device's page 0. -/
theorem resetLeavesAStalePage : Obligations.ResetLeavesAStalePage := by
  intro s ms off hs hr he hsync hms _ ho
  have hcur : (resetDone ms s).curPage = s.curPage := by simp [hsync]
  have hdev : (resetDone ms s).devPage = 0x00 := by rw [resetDone_devPage, pagePulsed, if_pos hms]
  obtain ⟨u, a, b, c, d, eu, hbus, hucur, hudev⟩ := readReg_pageHit
    (s := { resetDone ms s with devRecovering := false }) hcur (resetDone_fsm ms s) ho
    (hr.of_drop 0 1 (resetDone_xport ms s) (by simp)) (he.of_drop 0 (resetDone_cfg ms s) (resetDone_xport ms s)) rfl
  rw [resetDone_cfg] at hbus
  exact ⟨_, u, a, b, c, d, exec_resetDev_of_idle hs (timerEnds_of_responsive hr.2), hcur, hdev, eu, hbus, hucur,
    hudev.trans hdev⟩

end Sys2Proof.Machine
end

section
/-! SUPPORT. READ_BURST: the burst configuration at construction (R105), and the ten frames and nine words of a burst
with agents that answer (R101 to R109). -/

namespace Sys2Proof.Machine

/-! ### The burst configuration -/

/-- The six bits of a well-formed raw offset give it back (R105). -/
theorem byte_of_admitted (b : Byte) : admittedOff b = true → (⟨b.extractLsb' 1 6⟩ : BurstOffset).byte = b := by
  revert b; decide

theorem ofByte_of_admitted {b : Byte} (h : admittedOff b = true) :
    BurstOffset.ofByte b = some ⟨b.extractLsb' 1 6⟩ := if_pos h

/-- An accepted raw offset is held as given (R105). -/
theorem byte_of_ofByte {b : Byte} {o : BurstOffset} (h : BurstOffset.ofByte b = some o) : o.byte = b := by
  unfold BurstOffset.ofByte at h
  split at h
  · obtain rfl := Option.some.inj h
    exact byte_of_admitted b ‹_›
  · cases h

/-- Nine accepted raw offsets are held as given (R105). -/
theorem bytes_of_burstFields_ofBytes {f : BurstFields Byte} {a : BurstFields BurstOffset} (h : f.ofBytes = some a) :
    a.diag.byte = f.diag ∧ a.alarm.byte = f.alarm ∧ a.gyroX.byte = f.gyroX ∧ a.gyroY.byte = f.gyroY ∧
      a.gyroZ.byte = f.gyroZ ∧ a.acclX.byte = f.acclX ∧ a.acclY.byte = f.acclY ∧ a.acclZ.byte = f.acclZ ∧
      a.temp.byte = f.temp := by
  simp only [BurstFields.ofBytes, Option.bind_eq_some_iff, Option.map_eq_some_iff] at h
  obtain ⟨_, h0, _, h1, _, h2, _, h3, _, h4, _, h5, _, h6, _, h7, _, h8, rfl⟩ := h
  exact ⟨byte_of_ofByte h0, byte_of_ofByte h1, byte_of_ofByte h2, byte_of_ofByte h3, byte_of_ofByte h4,
    byte_of_ofByte h5, byte_of_ofByte h6, byte_of_ofByte h7, byte_of_ofByte h8⟩

/-- An accepted configuration holds its nine offsets and its dummy as given (R105). -/
theorem addr_of_burstConfig_ofBytes {f : BurstFields Byte} {dummy : Byte} {c : BurstConfig}
    (h : BurstConfig.ofBytes f dummy = some c) : f.ofBytes = some c.addr ∧ c.dummy.byte = dummy := by
  simp only [BurstConfig.ofBytes, Option.bind_eq_some_iff, Option.map_eq_some_iff] at h
  obtain ⟨_, ha, _, hd, rfl⟩ := h
  exact ⟨ha, byte_of_ofByte hd⟩

theorem initBlock_of_none {base : Params} {f : BurstFields Byte} {dummy : Byte}
    (h : BurstConfig.ofBytes f dummy = none) : initBlock base f dummy = .refused .illFormedConfig := by
  rw [initBlock, h]

theorem initBlock_of_some {base : Params} {f : BurstFields Byte} {dummy : Byte} {c : BurstConfig}
    (h : BurstConfig.ofBytes f dummy = some c) :
    initBlock base f dummy = .next (State.initial { base with burst := c }) := by
  rw [initBlock, h]

/-- Settles O11: an accepted configuration holds its offsets as given, and they are well formed; ten well-formed raw
offsets are accepted. -/
theorem illFormedConfigurationIsRefused : Obligations.IllFormedConfigurationIsRefused := by
  intro base addr dummy
  refine ⟨fun hbad => ?_, fun hgood => ?_⟩
  · cases hc : BurstConfig.ofBytes addr dummy with
    | none => exact initBlock_of_none hc
    | some c =>
      obtain ⟨ha, hd⟩ := addr_of_burstConfig_ofBytes hc
      obtain ⟨h0, h1, h2, h3, h4, h5, h6, h7, h8⟩ := bytes_of_burstFields_ofBytes ha
      rw [← h0, ← h1, ← h2, ← h3, ← h4, ← h5, ← h6, ← h7, ← h8, ← hd] at hbad
      simp only [byte_admitted, and_self, not_true_eq_false] at hbad
  · obtain ⟨h0, h1, h2, h3, h4, h5, h6, h7, h8, hd⟩ := hgood
    obtain ⟨c, hc⟩ : ∃ c, BurstConfig.ofBytes addr dummy = some c := by
      simp [BurstConfig.ofBytes, BurstFields.ofBytes, ofByte_of_admitted, *]
    obtain ⟨ha, ed⟩ := addr_of_burstConfig_ofBytes hc
    obtain ⟨e0, e1, e2, e3, e4, e5, e6, e7, e8⟩ := bytes_of_burstFields_ofBytes ha
    exact ⟨c, initBlock_of_some hc, e0, e1, e2, e3, e4, e5, e6, e7, e8, ed⟩

/-! ### The bytes of a sequence of frames -/

/-- The bytes received when the first two exchanges return `r0` and `r1`, and then `rx`. -/
def receivedThen (r0 r1 : Byte) (rx : Nat → Byte) : Nat → Byte
  | 0 => r0
  | 1 => r1
  | k + 2 => rx k

theorem receivedThen_shift (r0 r1 : Byte) (rx : Nat → Byte) (i : Nat) : receivedThen r0 r1 rx (2 + i) = rx i := by
  rw [Nat.add_comm]; rfl

/-- Two bytes received from `s`, and then those received from the state these exchanges lead to (R8, R33). -/
theorem receives_receivedThen {s u : State} {r0 r1 : Byte} {rx : Nat → Byte}
    (h0 : s.devRecovering = false → ∀ b, s.xport[0]? = some (.byte b) → r0 = b)
    (h1 : s.devRecovering = false → ∀ b, s.xport[1]? = some (.byte b) → r1 = b) (hrx : u.Receives rx)
    (hx : u.xport = s.xport.drop 2) (hd : s.devRecovering = false → u.devRecovering = false) :
    s.Receives (receivedThen r0 r1 rx) := by
  intro hs k b hb
  match k with
  | 0 => exact h0 hs b hb
  | 1 => exact h1 hs b hb
  | k + 2 => exact hrx (hd hs) k b (by rw [hx, List.getElem?_drop, Nat.add_comm]; exact hb)

/-- The events of frames that complete show the bytes from their first exchange on. -/
theorem planTrace_shift {rx rx' : Nat → Byte} {m : Nat} (h : ∀ i, rx' (m + i) = rx i) (k : Nat) (fs : List FramePlan) :
    planTrace rx' (m + k) fs = planTrace rx k fs := by
  induction fs generalizing k with
  | nil => rfl
  | cons f fs ih =>
    obtain ⟨b0, b1, us⟩ := f
    rw [planTrace, planTrace, Nat.add_assoc, Nat.add_assoc, h, h, ih]

/-! ### The nine captures -/

/-- The frames of burst number `k` and the `n - 1` after it (R102, R103). -/
def burstFrames (c : Params) (k n : Nat) : List FramePlan :=
  (List.range' k n).map fun j => (burstTx c.burst j, 0x00, c.tBurstStallUs)

theorem burstFrames_succ (c : Params) (k n : Nat) :
    burstFrames c k (n + 1) = (burstTx c.burst k, 0x00, c.tBurstStallUs) :: burstFrames c (k + 1) n := rfl

/-- A burst is the priming frame and the nine captures (R103). -/
theorem burstPlan_eq (s : State) : burstPlan s = burstFrames s.cfg 0 10 := rfl

/-- `n` captured words stored from field `i` on, the first from the exchanges number `k` and `k + 1` (R102). -/
def storeWords (rx : Nat → Byte) : (n k i : Nat) → BurstFields Word → BurstFields Word
  | 0, _, _, f => f
  | n + 1, k, i, f => storeWords rx n (k + 2) (i + 1) (f.set i (assembleWord (rx k) (rx (k + 1))))

theorem storeWords_shift {rx rx' : Nat → Byte} {m : Nat} (h : ∀ i, rx' (m + i) = rx i) (n k i : Nat)
    (f : BurstFields Word) : storeWords rx' n (m + k) i f = storeWords rx n k i f := by
  induction n generalizing k i f with
  | zero => rfl
  | succ n ih => rw [storeWords, storeWords, Nat.add_assoc, Nat.add_assoc, h, h, ih]

/-- Outside the recovery window a burst frame leaves the device's page (R28). -/
theorem latchedPage_burst {c : BurstConfig} {k : Nat} {u : State} (n : Nat) (h : u.devRecovering = false) :
    latchedPage (burstTx c k) 0x00 (turns n u) = u.devPage := by
  obtain ⟨h80, h81⟩ := admitted_ne_select _ (burstTx_admitted c k)
  rw [latchedPage_turns n h, if_neg h80, if_neg h81]

/-- A capture frame with agents that answer: its frame, and its two bytes kept (R102). -/
theorem captureFrame_responsive {u : State} (hx : u.fsm = .bcap) (hp : u.fpos = .csOn) (ha : u.aborting = false)
    (hr : u.Responsive) (he : u.NoReportedError) :
    ∃ r0 r1, captureFrame u =
        afterStall .bcapWait (framed .bcap (burstTx u.cfg.burst u.bk.toNat) 0x00 r0 r1 u) ∧
      (u.devRecovering = false → ∀ b, u.xport[0]? = some (.byte b) → r0 = b) ∧
      (u.devRecovering = false → ∀ b, u.xport[1]? = some (.byte b) → r1 = b) :=
  framePhase_responsive hx hp ha hr he

/-- The last `n + 1` captures with agents that answer: their frames, and the word of each in its field (R102). -/
theorem captureFrames_responsive (n i : Nat) (hi : i + n = 8) {u : State} (hx : u.fsm = .bcap) (hp : u.fpos = .csOn)
    (ha : u.aborting = false) (hk : u.bk.toNat = i + 1) (hr : u.Responsive) (he : u.NoReportedError) :
    ∃ (rx : Nat → Byte) (dp : Byte) (dr : Bool) (rd pd : Nat), u.Receives rx ∧
      captureFrames (n + 1) u = goto .resp
        { u with
          csLine := false, bk := 9, bbuf := storeWords rx (n + 1) 0 i u.bbuf
          rx0 := rx (2 * n), rx1 := rx (2 * n + 1)
          devPage := dp, devRecovering := dr, rxDraws := rd, pageDraws := pd
          xport := u.xport.drop (2 * n + 2), timer := u.timer.drop (n + 1), host := u.host.drop (6 * n + 6)
          bus := u.bus ++ planTrace rx 0 (burstFrames u.cfg (i + 1) (n + 1)) } ∧
      (u.devRecovering = false → dr = false ∧ dp = u.devPage) := by
  induction n generalizing i u with
  | zero =>
    obtain ⟨r0, r1, e, l0, l1⟩ := captureFrame_responsive hx hp ha hr he
    obtain rfl : i = 8 := by omega
    have h9 : u.bk = 9 := BitVec.eq_of_toNat_eq hk
    refine ⟨received r0 r1 u, latchedPage (burstTx u.cfg.burst u.bk.toNat) 0x00 (turns 4 u),
      (turns 6 u).devRecovering, u.rxDraws + 2, u.pageDraws + 1, receives_received l0 l1, ?_,
      fun hd => ⟨turns_devRecovering_false 6 hd, latchedPage_burst 4 hd⟩⟩
    rw [captureFrames, captureFrames, e, afterStall_bcapWait_last (u := framed ..) h9]
    simp [framed, goto, captures, h9, received, planTrace, burstFrames, storeWords, BurstFields.set, stallUs, stallOf]
  | succ n ih =>
    obtain ⟨r0, r1, e, l0, l1⟩ := captureFrame_responsive hx hp ha hr he
    let v := framed .bcap (burstTx u.cfg.burst u.bk.toNat) 0x00 r0 r1 u
    have hvk : v.bk.toNat = i + 1 := hk
    rw [afterStall_bcapWait_next (u := v) (by omega) (by omega), hvk] at e
    let w := goto .bcap { v with bbuf := v.bbuf.set i (assembleWord r0 r1), bk := v.bk + 1 }
    have hwk : w.bk.toNat = i + 1 + 1 := by simp only [w, goto_bk]; bv_omega
    have hwd : u.devRecovering = false → w.devRecovering = false := turns_devRecovering_false 6
    obtain ⟨rx, dp, dr, rd, pd, hrx, e', hpage⟩ := ih (i + 1) (by omega) (u := w) rfl rfl rfl hwk
      (hr.of_drop 2 1 rfl rfl) (he.of_drop 2 rfl rfl)
    refine ⟨receivedThen r0 r1 rx, dp, dr, rd, pd, receives_receivedThen l0 l1 hrx rfl hwd, ?_, fun hd => ?_⟩
    · have hs : storeWords (receivedThen r0 r1 rx) (n + 1 + 1) 0 i u.bbuf = storeWords rx (n + 1) 0 (i + 1) w.bbuf :=
        storeWords_shift (receivedThen_shift r0 r1 rx) (n + 1) 0 (i + 1) _
      have hb : planTrace (receivedThen r0 r1 rx) 0 (burstFrames u.cfg (i + 1) (n + 1 + 1)) =
          frameTrace (burstTx u.cfg.burst (i + 1)) 0x00 r0 r1 u.cfg.tBurstStallUs ++
            planTrace rx 0 (burstFrames u.cfg (i + 1 + 1) (n + 1)) :=
        congrArg _ (planTrace_shift (receivedThen_shift r0 r1 rx) 0 _)
      have h0 : receivedThen r0 r1 rx (2 * (n + 1)) = rx (2 * n) := rfl
      have h1 : receivedThen r0 r1 rx (2 * (n + 1) + 1) = rx (2 * n + 1) := rfl
      rw [captureFrames, e]
      refine e'.trans ?_
      rw [hs, hb, h0, h1]
      simp [w, v, framed, goto, stallUs, stallOf, hk, Nat.mul_add, Nat.add_comm]
    · obtain ⟨hdr, hdp⟩ := hpage (hwd hd)
      exact ⟨hdr, hdp.trans (latchedPage_burst 4 hd)⟩

/-- The ten burst frames with agents that answer: all nine fields are captured, field `i` from frame `T(i+1)` (R102,
R103). -/
theorem burstFrames_responsive {u : State} (hx : u.fsm = .bprime) (hp : u.fpos = .csOn) (ha : u.aborting = false)
    (hr : u.Responsive) (he : u.NoReportedError) :
    ∃ (rx : Nat → Byte) (dp : Byte) (dr : Bool) (rd pd : Nat), u.Receives rx ∧
      captureFrames 9 (framePhase .bprime (burstTx u.cfg.burst 0) 0x00 u) = goto .resp
        { u with
          csLine := false, bk := 9, bbuf := storeWords rx 9 2 0 u.bbuf
          rx0 := rx 18, rx1 := rx 19
          devPage := dp, devRecovering := dr, rxDraws := rd, pageDraws := pd
          xport := u.xport.drop 20, timer := u.timer.drop 10, host := u.host.drop 60
          bus := u.bus ++ planTrace rx 0 (burstPlan u) } ∧
      (u.devRecovering = false → dr = false ∧ dp = u.devPage) := by
  obtain ⟨r0, r1, e, l0, l1⟩ := framePhase_responsive (b0 := burstTx u.cfg.burst 0) (b1 := 0x00) hx hp ha hr he
  let w := goto .bcap { framed .bprime (burstTx u.cfg.burst 0) 0x00 r0 r1 u with bk := 1 }
  have hwd : u.devRecovering = false → w.devRecovering = false := turns_devRecovering_false 6
  obtain ⟨rx, dp, dr, rd, pd, hrx, e', hpage⟩ := captureFrames_responsive 8 0 rfl (u := w) rfl rfl rfl rfl
    (hr.of_drop 2 1 rfl rfl) (he.of_drop 2 rfl rfl)
  refine ⟨receivedThen r0 r1 rx, dp, dr, rd, pd, receives_receivedThen l0 l1 hrx rfl hwd, ?_, fun hd => ?_⟩
  · have hs : storeWords (receivedThen r0 r1 rx) 9 2 0 u.bbuf = storeWords rx 9 0 0 w.bbuf := rfl
    have hb : planTrace (receivedThen r0 r1 rx) 0 (burstPlan u) =
        frameTrace (burstTx u.cfg.burst 0) 0x00 r0 r1 u.cfg.tBurstStallUs ++ planTrace rx 0 (burstFrames w.cfg 1 9) :=
      congrArg _ (planTrace_shift (receivedThen_shift r0 r1 rx) 0 _)
    rw [e]
    refine e'.trans ?_
    rw [hs, hb]
    simp [w, framed, goto, stallUs, stallOf, receivedThen, captures]
  · obtain ⟨hdr, hdp⟩ := hpage (hwd hd)
    exact ⟨hdr, hdp.trans (latchedPage_burst 4 hd)⟩

/-! ### READ_BURST to its end -/

/-- The bytes of an access to `page`: those of its page select, where there is one, and then `rx` (R81, R86). -/
def selectThen (s : State) (page r0 r1 : Byte) (rx : Nat → Byte) : Nat → Byte :=
  if page = s.curPage then rx else receivedThen r0 r1 rx

theorem selectThen_shift (s : State) (page r0 r1 : Byte) (rx : Nat → Byte) (i : Nat) :
    selectThen s page r0 r1 rx (selectXfers s page + i) = rx i := by
  unfold selectThen selectXfers
  split
  · rw [Nat.zero_add]
  · exact receivedThen_shift r0 r1 rx i

theorem selectTrace_selectThen (s : State) (page r0 r1 : Byte) (rx : Nat → Byte) :
    selectTrace s page (selectThen s page r0 r1 rx) = selectTrace s page fun k => if k = 0 then r0 else r1 :=
  selectTrace_congr fun h => by rw [selectThen, if_neg h]; exact ⟨rfl, rfl⟩

theorem receives_selectThen {s u : State} {page r0 r1 : Byte} {rx : Nat → Byte}
    (h0 : s.devRecovering = false → page ≠ s.curPage → ∀ b, s.xport[0]? = some (.byte b) → r0 = b)
    (h1 : s.devRecovering = false → page ≠ s.curPage → ∀ b, s.xport[1]? = some (.byte b) → r1 = b)
    (hrx : u.Receives rx) (hx : u.xport = s.xport.drop (selectXfers s page))
    (hd : s.devRecovering = false → u.devRecovering = false) : s.Receives (selectThen s page r0 r1 rx) := by
  unfold selectThen
  unfold selectXfers at hx
  split
  case isTrue h =>
    rw [if_pos h] at hx
    exact fun hs k b hb => hrx (hd hs) k b (by rw [hx]; exact hb)
  case isFalse h =>
    rw [if_neg h] at hx
    exact receives_receivedThen (fun hs => h0 hs h) (fun hs => h1 hs h) hrx hx hd

/-- Nine stored words are the whole sample (R106). -/
theorem storeWords_nine (rx : Nat → Byte) (k : Nat) (f : BurstFields Word) :
    storeWords rx 9 (k + 2) 0 f =
      let word := fun i : Nat => assembleWord (rx (k + 2 * (i + 1))) (rx (k + 2 * (i + 1) + 1))
      ⟨word 0, word 1, word 2, word 3, word 4, word 5, word 6, word 7, word 8⟩ := rfl

/-- A burst with agents that answer: the page select on a miss, and the ten burst frames, with the bytes received (R101,
R102). -/
theorem burst_responsive {s : State} (hop : s.reqOp = 0x2) (hp : s.reqPage = 0x00) (hr : s.Responsive)
    (he : s.NoReportedError) :
    ∃ (rx : Nat → Byte) (dp : Byte) (dr : Bool) (rd pd : Nat), s.Receives rx ∧
      (let n := selectXfers s 0x00
       captureFrames 9
        (framePhase .bprime (burstTx s.cfg.burst 0) 0x00 (selectPage 0x00 (pageDecision .bprime s))) = goto .resp
        { s with
          csLine := false, curPage := 0x00, bk := 9, bbuf := storeWords rx 9 (n + 2) 0 s.bbuf
          rx0 := rx (n + 18), rx1 := rx (n + 19)
          devPage := dp, devRecovering := dr, rxDraws := rd, pageDraws := pd
          xport := s.xport.drop (n + 20), timer := s.timer.drop (n / 2 + 10), host := s.host.drop (3 * n + 60)
          bus := s.bus ++ selectTrace s 0x00 rx ++ planTrace rx n (burstPlan s) }) ∧
      (s.devRecovering = false → dr = false ∧ dp = if 0x00 = s.curPage then s.devPage else 0x00) := by
  obtain ⟨r0, r1, dp0, dr0, rd0, pd0, l0, l1, e, hpage⟩ :=
    select_responsive (first := .bprime) hp (by rw [hop]; rfl) (by simp) (by simp) hr he
  generalize selectPage 0x00 (pageDecision .bprime s) = u at e ⊢
  have hux : u.xport = s.xport.drop (selectXfers s 0x00) := by rw [e]
  have hud (hd : s.devRecovering = false) : u.devRecovering = false := by rw [e]; exact (hpage hd).1
  have hcfg : u.cfg = s.cfg := by rw [e]
  obtain ⟨rx, dp, dr, rd, pd, hrx, e', hpage'⟩ := burstFrames_responsive (u := u) (by rw [e]) (by rw [e]) (by rw [e])
    (hr.of_drop (selectXfers s 0x00) (selectXfers s 0x00 / 2) hux (by rw [e]))
    (he.of_drop (selectXfers s 0x00) hcfg hux)
  have hshift := selectThen_shift s 0x00 r0 r1 rx
  have hplan : planTrace rx 0 (burstPlan u) =
      planTrace (selectThen s 0x00 r0 r1 rx) (selectXfers s 0x00) (burstPlan s) := by
    rw [burstPlan_eq u, hcfg]; exact (planTrace_shift hshift 0 (burstPlan s)).symm
  refine ⟨selectThen s 0x00 r0 r1 rx, dp, dr, rd, pd, receives_selectThen l0 l1 hrx hux hud, ?_, fun hd => ?_⟩
  · rw [← hcfg, e', hplan, ← storeWords_shift hshift, ← hshift 18, ← hshift 19, e, selectTrace_selectThen]
    simp [goto, List.drop_drop]
  · obtain ⟨hdr, hdp⟩ := hpage' (hud hd)
    rw [e] at hdp
    exact ⟨hdr, hdp.trans (hpage hd).2⟩

theorem accept_readBurst (s : State) :
    accept .readBurst s = pageDecision .bprime { s with reqOp := 0x2, reqPage := 0x00, reqOff := 0x00 } := rfl

theorem exec_readBurst_of_idle {s : State} (hs : s.fsm = .idle) :
    exec .readBurst s = .next (runReadBurst (checked s)) := operate_of_idle hs

/-- A burst whose page select takes `a` turns of the host takes two before it, sixty for its frames and one for its
response. -/
theorem burst_turns (a : Nat) : 2 + (a + 60) + 1 = a + 63 := by omega

/-- Settles O34: the page select and the ten burst frames, then the response with the nine words. -/
theorem readBurstReturnsNineWords : Obligations.ReadBurstReturnsNineWords := by
  intro s hs hr he
  obtain ⟨dr0, hc, hdr0⟩ := exists_checked_eq s
  obtain ⟨rx, dp, dr, rd, pd, hrx, e, hpage⟩ := burst_responsive
    (s := { s with host := s.host.drop 2, devRecovering := dr0, reqOp := 0x2, reqPage := 0x00, reqOff := 0x00 })
    rfl rfl hr he
  refine ⟨rx, _, by rw [exec_readBurst_of_idle hs, runReadBurst, hc, accept_readBurst, e, respondResult_goto_resp],
    fun hd => hrx (hdr0 hd), ?_, fun hd => ?_⟩
  · simp [resultPayload, storeWords_nine, selectXfers, selectTrace, xfaultOut, burstPlan, burst_turns]
  · obtain ⟨hdr, hdp⟩ := hpage (hdr0 hd)
    exact ⟨hostTurn_devRecovering_false hdr, hdp⟩

end Sys2Proof.Machine
end

section
/-! SUPPORT. A reported transport error (R143): the frame it breaks off, and the operation that ends with it. -/

namespace Sys2Proof.Machine

/-! ### How an operation ends at a failed exchange -/

/-- From `s` the operation is broken off into `t`: `events` are emitted, FLT_TRANSPORT is answered, and the answers
`rest` are left (R143; log 24). -/
structure Aborted (s t : State) (events : List BusEvent) (rest : List XferAnswer) : Prop where
  bus : t.bus = s.bus ++ events
  fsm : t.fsm = .idle
  csLine : t.csLine = false
  xfault : t.xfault = true
  xport : t.xport = rest
  responses : t.responses = s.responses ++ [⟨.fltTransport, some true, .none⟩]
  devPage : ∃ d : Nat, t.devPage = Config.pageDraw d

/-- From `s` to `t`, `cur_page` has become `c`, and `rdata` and (where `buf` holds) `bbuf` are as they were. -/
structure Keeps (buf : Prop) (c : Byte) (s t : State) : Prop where
  curPage : t.curPage = c
  rdata : t.rdata = s.rdata
  bbuf : buf → t.bbuf = s.bbuf

/-- The operation whose frames `fs` begin in `u` ends in `t` when an exchange of theirs fails: whatever the number of
good ones before it, and then `K` holds of that number and `t` (R143). -/
def BreaksOff (K : Nat → State → Prop) (u t : State) (fs : List FramePlan) : Prop :=
  ∀ (good : List Byte) (rest : List XferAnswer), u.xport = good.map XferAnswer.byte ++ XferAnswer.err :: rest →
    good.length < 2 * fs.length →
    ∃ rx : Nat → Byte, u.Receives rx ∧ Aborted u t (brokenTrace rx 0 good.length fs) rest ∧ K good.length t

/-- What comes after an operation that has ended does nothing. -/
def RestsWhenIdle (g : State → State) : Prop := ∀ t : State, t.fsm = .idle → g t = t

theorem restsWhenIdle_respondResult : RestsWhenIdle respondResult :=
  fun t ht => respondResult_of_ne (by rw [ht]; simp)

section
variable {x : Fsm} (b0 b1 : Byte) {t : State} (hx : inFrame x = true) (ht : t.fsm = .idle)
include hx ht

theorem frameEvent_of_idle : frameEvent x b0 b1 t = t :=
  frameEvent_of_ne (by rw [ht]; exact (inFrame_ne hx).1.symm)

theorem stall_of_idle : stall (stallOf x) t = t :=
  stall_of_ne (by rw [ht]; exact (inWait_ne (inWait_stallOf hx)).1.symm)

theorem framePhase_of_idle : framePhase x b0 b1 t = t := by
  rw [framePhase, frame_of_ne (by rw [ht]; exact (inFrame_ne hx).1.symm), stall_of_idle hx ht]

end

theorem RestsWhenIdle.framePhase {g : State → State} {x : Fsm} (b0 b1 : Byte) (hx : inFrame x = true)
    (hg : RestsWhenIdle g) : RestsWhenIdle fun t => g (framePhase x b0 b1 t) := by
  intro t ht
  simp only [framePhase_of_idle b0 b1 hx ht, hg t ht]

theorem RestsWhenIdle.captureFrames {g : State → State} (hg : RestsWhenIdle g) (n : Nat) :
    RestsWhenIdle fun t => g (captureFrames n t) := by
  induction n with
  | zero => exact hg
  | succ n ih => exact fun t ht => ih.framePhase (x := .bcap) (burstTx t.cfg.burst t.bk.toNat) 0x00 rfl t ht

/-! ### The frame of the failed exchange -/

/-- The frame of position `x` is about to start, errors are reported, and the timer answers (R89). -/
structure ReportingAt (x : Fsm) (u : State) : Prop where
  fsm : u.fsm = x
  fpos : u.fpos = .csOn
  aborting : u.aborting = false
  reporting : u.cfg.xportErrReporting = true
  timer : ∀ a ∈ u.timer, a ≠ TimerAnswer.pending

/-- A listed byte is received, but for the recovery window (R8, R33). -/
theorem xferAnswer_of_byte {u : State} {a : Byte} {l : List XferAnswer} (h : u.xport = .byte a :: l) :
    ∃ r, xferAnswer u = .byte r ∧ (u.devRecovering = false → r = a) :=
  ⟨_, by rw [xferAnswer, h], fun hd => by rw [hd]; rfl⟩

/-- The frame of position `x` that started in `u` has come to `v`, before its exchange `p`, with `events` emitted
and the answers `left` not used. -/
structure Underway (x : Fsm) (u v : State) (p : FPos) (events : List BusEvent) (left : List XferAnswer) : Prop where
  fsm : v.fsm = x
  fpos : v.fpos = p
  bus : v.bus = u.bus ++ events
  xport : v.xport = left
  reporting : v.cfg.xportErrReporting = true
  devRecovering : u.devRecovering = false → v.devRecovering = false
  responses : v.responses = u.responses
  keeps : Keeps True u.curPage u v

/-- The frame starts with `CS(assert)` (R83). -/
theorem ReportingAt.starts {x : Fsm} {u : State} (h : ReportingAt x u) (b0 b1 : Byte) :
    Underway x u (frameEvent x b0 b1 u) .b0 [.cs true] u.xport := by
  rw [frameEvent_csOn h.fsm h.fpos]
  exact ⟨by simp [h.fsm], rfl, by simp, by simp, by simp [h.reporting], hostTurn_devRecovering_false, by simp,
    by simp, by simp, by simp⟩

/-- Its first exchange returns a byte (R83). -/
theorem Underway.receives {x : Fsm} {u v : State} {events : List BusEvent} {a : Byte} {left : List XferAnswer}
    (h : Underway x u v .b0 events (.byte a :: left)) (b0 b1 : Byte) :
    ∃ r, (u.devRecovering = false → r = a) ∧
      Underway x u (frameEvent x b0 b1 v) .b1 (events ++ [.xfer b0 r]) left := by
  obtain ⟨r, hr, hra⟩ := xferAnswer_of_byte (u := hostTurn v) ((hostTurn_xport v).trans h.xport)
  have hd (hu : u.devRecovering = false) : (hostTurn v).devRecovering = false :=
    hostTurn_devRecovering_false (h.devRecovering hu)
  obtain ⟨hc, hrd, hb⟩ := h.keeps
  refine ⟨r, fun hu => hra (hd hu), ?_⟩
  rw [frameEvent_b0 h.fsm h.fpos hr]
  exact ⟨by simp [h.fsm], rfl, by simp [h.bus], by simp [h.xport], by simp [h.reporting], hd, by simp [h.responses],
    by simp [hc], by simp [hrd], by simpa using hb⟩

/-- An exchange of it fails, and `CS(deassert)` ends the operation (R143). -/
theorem Underway.fails {x : Fsm} {u v : State} {p : FPos} {events : List BusEvent} {rest : List XferAnswer}
    {b0 b1 tx : Byte} (h : Underway x u v p events (.err :: rest)) (hp : p = .b0 ∧ tx = b0 ∨ p = .b1 ∧ tx = b1) :
    Aborted u (frameEvent x b0 b1 (frameEvent x b0 b1 v)) (events ++ [.xferErr tx, .cs false]) rest ∧
      Keeps True u.curPage u (frameEvent x b0 b1 (frameEvent x b0 b1 v)) := by
  have hr : xferAnswer (hostTurn v) = .err := by
    rw [xferAnswer, hostTurn_xport, h.xport, hostTurn_cfg]; exact if_pos h.reporting
  have e : frameEvent x b0 b1 v =
      emit (.xferErr tx) (answered { hostTurn v with fpos := .csOff, aborting := true }) := by
    obtain ⟨rfl, rfl⟩ | ⟨rfl, rfl⟩ := hp
    · simp [frameEvent, frameAct, h.fsm, h.fpos, xferFirst, hr]
    · simp [frameEvent, frameAct, h.fsm, h.fpos, xferSecond, hr]
  have e' : frameEvent x b0 b1 (frameEvent x b0 b1 v) = transportFault (hostTurn (frameEvent x b0 b1 v)) := by
    rw [e]; simp [frameEvent, frameAct, h.fsm]
  obtain ⟨hc, hrd, hb⟩ := h.keeps
  rw [e', e]
  exact ⟨⟨by simp [h.bus], rfl, rfl, rfl, by simp [h.xport], by simp [h.responses, h.reporting], _, rfl⟩,
    by simp [hc], by simp [hrd], by simpa using hb⟩

section
variable {x : Fsm} {u : State} {rest : List XferAnswer} (b0 b1 : Byte) (hx : inFrame x = true) (hu : ReportingAt x u)
include hx hu

/-- The first exchange of a frame fails (R143). -/
theorem framePhase_fails_first (hl : u.xport = .err :: rest) :
    Aborted u (framePhase x b0 b1 u) [.cs true, .xferErr b0, .cs false] rest ∧
      Keeps True u.curPage u (framePhase x b0 b1 u) := by
  have hs := hu.starts b0 b1
  rw [hl] at hs
  obtain ⟨ha, hk⟩ := hs.fails (b1 := b1) (.inl ⟨rfl, rfl⟩)
  rw [framePhase, frame, frameEvent_of_idle b0 b1 hx ha.fsm, stall_of_idle hx ha.fsm]
  exact ⟨ha, hk⟩

/-- The second exchange of a frame fails, after the first has returned a byte (R143). -/
theorem framePhase_fails_second {a : Byte} (hl : u.xport = .byte a :: .err :: rest) :
    ∃ r, (u.devRecovering = false → ∀ c, u.xport[0]? = some (.byte c) → r = c) ∧
      Aborted u (framePhase x b0 b1 u) [.cs true, .xfer b0 r, .xferErr b1, .cs false] rest ∧
      Keeps True u.curPage u (framePhase x b0 b1 u) := by
  have hs := hu.starts b0 b1
  rw [hl] at hs
  obtain ⟨r, hr, hs'⟩ := hs.receives b0 b1
  obtain ⟨ha, hk⟩ := hs'.fails (b0 := b0) (.inr ⟨rfl, rfl⟩)
  rw [framePhase, frame, stall_of_idle hx ha.fsm]
  exact ⟨r, fun hd c hc => (hr hd).trans (by simpa [hl] using hc), ha, hk⟩

end

/-- Both exchanges of a frame return a byte: it completes (R83, R164). -/
theorem framePhase_listed {x : Fsm} {u : State} {a b : Byte} {rest : List XferAnswer} (b0 b1 : Byte)
    (hu : ReportingAt x u) (hl : u.xport = .byte a :: .byte b :: rest) :
    ∃ r0 r1, framePhase x b0 b1 u = afterStall (stallOf x) (framed x b0 b1 r0 r1 u) ∧
      (u.devRecovering = false → ∀ c, u.xport[0]? = some (.byte c) → r0 = c) ∧
      (u.devRecovering = false → ∀ c, u.xport[1]? = some (.byte c) → r1 = c) := by
  obtain ⟨r0, h0, l0⟩ := xferAnswer_of_byte (u := turns 2 u) (by rw [turns_eq]; exact hl)
  obtain ⟨r1, h1, l1⟩ := xferAnswer_of_byte (u := answered (turns 3 u)) (a := b) (l := rest)
    (by rw [turns_eq, answered_xport, hl]; rfl)
  exact ⟨r0, r1, framePhase_framed hu.fsm hu.fpos hu.aborting h0 h1 (timerEnds_of_responsive hu.timer),
    fun hd c hc => (l0 (turns_devRecovering_false 2 hd)).trans (by simpa [hl] using hc),
    fun hd c hc => (l1 (turns_devRecovering_false 3 hd)).trans (by simpa [hl] using hc)⟩

/-! ### The frames before it -/

/-- The events of a broken-off sequence of frames show the bytes from its first exchange on. -/
theorem brokenTrace_shift {rx rx' : Nat → Byte} {m : Nat} (h : ∀ i, rx' (m + i) = rx i) (k n : Nat)
    (fs : List FramePlan) : brokenTrace rx' (m + k) n fs = brokenTrace rx k n fs := by
  induction fs generalizing k n with
  | nil => simp only [brokenTrace]
  | cons f fs ih =>
    obtain ⟨b0, b1, us⟩ := f
    match n with
    | 0 => rfl
    | 1 => rw [brokenTrace, brokenTrace, h]
    | n + 2 => rw [brokenTrace, brokenTrace, Nat.add_assoc, Nat.add_assoc, h, h, ih]

/-- What is emitted before the operation comes to `w` precedes its events from there. -/
theorem Aborted.after {u w t : State} {before events : List BusEvent} {rest : List XferAnswer}
    (h : Aborted w t events rest) (hb : w.bus = u.bus ++ before) (hr : w.responses = u.responses) :
    Aborted u t (before ++ events) rest where
  bus := by rw [h.bus, hb, List.append_assoc]
  fsm := h.fsm
  csLine := h.csLine
  xfault := h.xfault
  xport := h.xport
  responses := by rw [h.responses, hr]
  devPage := h.devPage

theorem Keeps.trans {buf : Prop} {c : Byte} {s u t : State} (h : Keeps buf c s u) (k : Keeps True u.curPage u t) :
    Keeps buf c s t :=
  ⟨k.curPage.trans h.curPage, k.rdata.trans h.rdata, fun hb => (k.bbuf trivial).trans (h.bbuf hb)⟩

theorem BreaksOff.nil {K : Nat → State → Prop} {u t : State} : BreaksOff K u t [] :=
  fun _ _ _ h => absurd h (Nat.not_lt_zero _)

/-- The frames may be said to begin in any state that has the same agents and has emitted and answered the same. -/
theorem BreaksOff.of_start {K K' : Nat → State → Prop} {s u t : State} {fs : List FramePlan} (h : BreaksOff K u t fs)
    (hK : ∀ n t, K n t → K' n t) (hx : u.xport = s.xport) (hb : u.bus = s.bus) (hr : u.responses = s.responses)
    (hd : s.devRecovering = false → u.devRecovering = false) : BreaksOff K' s t fs := by
  intro good rest hl hn
  obtain ⟨rx, hrx, ha, hk⟩ := h good rest (hx.trans hl) hn
  exact ⟨rx, fun hs k b hkb => hrx (hd hs) k b (by rw [hx]; exact hkb),
    ha.after (before := []) (by rw [hb, List.append_nil]) hr, hK _ _ hk⟩

/-- A frame at the start of the operation's frames: either one of its exchanges fails and nothing follows, or it
completes and a later one fails. -/
theorem BreaksOff.frame {K : Nat → State → Prop} {g : State → State} {x : Fsm} {b0 b1 : Byte} {us : Nat} {u : State}
    {fs : List FramePlan} (hx : inFrame x = true) (hu : ReportingAt x u) (hus : stallUs (stallOf x) u.cfg = us)
    (hg : RestsWhenIdle g) (hK : ∀ n < 2, ∀ t, Keeps True u.curPage u t → K n t)
    (hnext : ∀ r0 r1, BreaksOff (fun n => K (n + 2)) (afterStall (stallOf x) (framed x b0 b1 r0 r1 u))
      (g (afterStall (stallOf x) (framed x b0 b1 r0 r1 u))) fs) :
    BreaksOff K u (g (framePhase x b0 b1 u)) ((b0, b1, us) :: fs) := by
  intro good rest hl hn
  match good with
  | [] =>
    obtain ⟨ha, hk⟩ := framePhase_fails_first b0 b1 hx hu hl
    rw [hg _ ha.fsm]
    exact ⟨listedByte u.xport, fun _ k b hb => by simp [listedByte, hb], ha, hK 0 (by omega) _ hk⟩
  | [a] =>
    obtain ⟨r, hr, ha, hk⟩ := framePhase_fails_second b0 b1 hx hu hl
    rw [hg _ ha.fsm]
    exact ⟨received r 0x00 u, receives_received hr (fun _ c hc => by simp [hl] at hc), ha, hK 1 (by omega) _ hk⟩
  | a :: b :: good =>
    obtain ⟨r0, r1, e, l0, l1⟩ := framePhase_listed b0 b1 hu hl
    have hwx : (afterStall (stallOf x) (framed x b0 b1 r0 r1 u)).xport = u.xport.drop 2 := by rw [afterStall_eq]; rfl
    obtain ⟨rx, hrx, ha, hk⟩ := hnext r0 r1 good rest (by rw [hwx, hl]; rfl)
      (by simp only [List.length_cons] at hn; omega)
    rw [e]
    refine ⟨receivedThen r0 r1 rx, receives_receivedThen l0 l1 hrx hwx
      (fun hd => by rw [afterStall_devRecovering]; exact turns_devRecovering_false 6 hd), ?_, hk⟩
    rw [← brokenTrace_shift (receivedThen_shift r0 r1 rx)] at ha
    exact ha.after (before := frameTrace b0 b1 r0 r1 us) (by rw [afterStall_bus, ← hus]; rfl)
      (by rw [afterStall_responses]; rfl)

/-! ### The frames of the operations -/

/-- What follows a completed frame starts at the position `y`, with errors still reported. -/
theorem ReportingAt.next {x y : Fsm} {u v : State} (h : ReportingAt x u) (hc : v.cfg = u.cfg)
    (ht : v.timer = u.timer.drop 1) : ReportingAt y (goto y v) :=
  ⟨rfl, rfl, rfl, by rw [goto_cfg, hc]; exact h.reporting,
    fun a ha => h.timer a (List.mem_of_mem_drop (by rw [← ht]; exact ha))⟩

/-- A frame other than the page select writes neither `cur_page` nor the captured words; these are written after the
stall. -/
theorem Keeps.framed {buf : Prop} {c : Byte} {x : Fsm} {s u : State} (h : Keeps buf c s u) (hx : x ≠ .psel)
    (b0 b1 r0 r1 : Byte) : Keeps buf c s (framed x b0 b1 r0 r1 u) :=
  ⟨(if_neg hx).trans h.curPage, h.rdata, h.bbuf⟩

theorem Keeps.goto {buf : Prop} {c : Byte} {s u : State} (h : Keeps buf c s u) (y : Fsm) : Keeps buf c s (goto y u) :=
  ⟨h.curPage, h.rdata, h.bbuf⟩

/-- The two frames of a register access (R84, R85). -/
theorem access_breaksOff {op : BitVec 4} {x y : Fsm} {buf : Prop} {page b0 b1 c0 c1 : Byte} {s u : State}
    (hf : AccessFrames op x y) (hx : inFrame x = true) (hy : inFrame y = true) (hu : ReportingAt x u)
    (hk : Keeps buf page s u) :
    BreaksOff (fun _ => Keeps buf page s) u (respondResult (framePhase y c0 c1 (framePhase x b0 b1 u)))
      [(b0, b1, u.cfg.tStallUs), (c0, c1, u.cfg.tStallUs)] := by
  refine .frame (g := fun t => respondResult (framePhase y c0 c1 t)) hx hu (hf.stallFirst _)
    (restsWhenIdle_respondResult.framePhase c0 c1 hy) (fun _ _ _ => hk.trans) fun r0 r1 => ?_
  have hk' := (hk.framed hf.notSelect.1 b0 b1 r0 r1).goto y
  rw [hf.next]
  exact .frame hy (hu.next rfl rfl) (hf.stallLast _) restsWhenIdle_respondResult (fun _ _ _ => hk'.trans)
    fun _ _ => .nil

/-- The captures of a burst from number `k` on (R102). -/
theorem captureFrames_breaksOff {page : Byte} {s : State} (n k : Nat) (hk : k + n = 10) (h1 : 1 ≤ k) {u : State}
    (hu : ReportingAt .bcap u) (hb : u.bk.toNat = k) (hs : Keeps False page s u) :
    BreaksOff (fun _ => Keeps False page s) u (respondResult (captureFrames n u)) (burstFrames u.cfg k n) := by
  induction n generalizing k u with
  | zero => exact .nil
  | succ n ih =>
    rw [captureFrames, captureFrame, hb, burstFrames_succ]
    refine .frame (g := fun t => respondResult (captureFrames n t)) rfl hu rfl
      (restsWhenIdle_respondResult.captureFrames n) (fun _ _ _ => hs.trans) fun r0 r1 => ?_
    cases n with
    | zero => exact .nil
    | succ n =>
      have hs' := hs.framed (x := .bcap) (by simp) (burstTx u.cfg.burst k) 0x00 r0 r1
      generalize hv : framed .bcap (burstTx u.cfg.burst k) 0x00 r0 r1 u = v at hs'
      have hvb : v.bk.toNat = k := by rw [← hv]; exact hb
      have hvc : v.cfg = u.cfg := by rw [← hv]; rfl
      rw [stallOf, afterStall_bcapWait_next (by omega) (by omega), ← hvc]
      exact ih (k + 1) (by omega) (by omega) (hu.next hvc (by rw [← hv]; rfl))
        (by simp only [goto_bk]; bv_omega) ⟨hs'.curPage, hs'.rdata, False.elim⟩

/-- The ten burst frames (R102, R103). -/
theorem burstFrames_breaksOff {page : Byte} {s u : State} (hu : ReportingAt .bprime u) (hs : Keeps False page s u) :
    BreaksOff (fun _ => Keeps False page s) u
      (respondResult (captureFrames 9 (framePhase .bprime (burstTx u.cfg.burst 0) 0x00 u)))
      (burstFrames u.cfg 0 10) := by
  refine .frame (g := fun t => respondResult (captureFrames 9 t)) rfl hu rfl
    (restsWhenIdle_respondResult.captureFrames 9) (fun _ _ _ => hs.trans) fun r0 r1 => ?_
  have hs' := hs.framed (x := .bprime) (by simp) (burstTx u.cfg.burst 0) 0x00 r0 r1
  exact captureFrames_breaksOff 9 1 rfl le_rfl (hu.next rfl rfl) rfl ⟨hs'.curPage, hs'.rdata, False.elim⟩

/-! ### The whole operations -/

/-- What an operation on `page` that begins in `s` and is broken off after `n` good exchanges leaves: `cur_page` is
written if the page select had completed (R82, R143). -/
def OperationKeeps (buf : Prop) (s : State) (page : Byte) (n : Nat) : State → Prop :=
  Keeps buf (if n < 2 * (selectPlan s page).length then s.curPage else page) s

/-- The page decision and its page select, before the frames of the access `g` (R80, R81). -/
theorem select_breaksOff {buf : Prop} {g : State → State} {first : Fsm} {page : Byte} {access : List FramePlan}
    {s : State} (hp : s.reqPage = page) (hf : firstState s.reqOp = first) (h1 : first ≠ .psel) (h2 : first ≠ .pselWait)
    (hc : s.cfg.xportErrReporting = true) (ht : ∀ a ∈ s.timer, a ≠ TimerAnswer.pending) (hg : RestsWhenIdle g)
    (hnext : ∀ u, ReportingAt first u → u.cfg = s.cfg → Keeps buf page s u →
      BreaksOff (fun _ => Keeps buf page s) u (g u) access) :
    BreaksOff (OperationKeeps buf s page) s (g (selectPage page (pageDecision first s)))
      (selectPlan s page ++ access) := by
  subst hp
  unfold selectPage OperationKeeps selectPlan
  obtain ⟨h, e⟩ | ⟨h, e⟩ := pageDecision_cases first s <;> rw [e]
  · rw [framePhase_of_ne (by simpa using h1) (by simpa [stallOf] using h2)]
    simp only [if_pos h]
    exact (hnext (goto first s) ⟨rfl, rfl, rfl, hc, ht⟩ rfl ⟨h.symm, rfl, fun _ => rfl⟩).of_start
      (fun _ _ k => k) rfl rfl rfl id
  · simp only [if_neg h]
    have hu : ReportingAt .psel (goto .psel s) := ⟨rfl, rfl, rfl, hc, ht⟩
    refine BreaksOff.of_start (.frame rfl hu rfl hg (fun n hn t k => ?_) fun r0 r1 => ?_) (fun _ _ k => k) rfl rfl rfl
      id
    · exact ⟨k.curPage.trans (if_pos hn).symm, k.rdata, fun _ => k.bbuf trivial⟩
    · have hw : afterStall (stallOf .psel) (framed .psel 0x80 s.reqPage r0 r1 (goto .psel s)) =
          goto first (framed .psel 0x80 s.reqPage r0 r1 (goto .psel s)) := by rw [← hf]; rfl
      rw [hw]
      exact hnext _ (hu.next rfl rfl) rfl ⟨rfl, rfl, fun _ => rfl⟩

/-- A register access from its page decision on (R80, R84, R85). -/
theorem registerAccess_breaksOff {x y : Fsm} {page : Byte} (b0 b1 c0 c1 : Byte) {s : State}
    (hf : AccessFrames s.reqOp x y) (hx : inFrame x = true) (hy : inFrame y = true) (hp : s.reqPage = page)
    (hc : s.cfg.xportErrReporting = true) (ht : ∀ a ∈ s.timer, a ≠ TimerAnswer.pending) :
    BreaksOff (OperationKeeps True s page) s
      (respondResult (framePhase y c0 c1 (framePhase x b0 b1 (selectPage page (pageDecision x s)))))
      (selectPlan s page ++ [(b0, b1, s.cfg.tStallUs), (c0, c1, s.cfg.tStallUs)]) := by
  have hg := (restsWhenIdle_respondResult.framePhase c0 c1 hy).framePhase b0 b1 hx
  refine select_breaksOff (g := fun u => respondResult (framePhase y c0 c1 (framePhase x b0 b1 u))) hp hf.first
    hf.notSelect.1 hf.notSelect.2 hc ht hg fun u hu hcfg hk => ?_
  rw [← hcfg]
  exact access_breaksOff hf hx hy hu hk

/-- A burst from its page decision on (R101, R102). -/
theorem burst_breaksOff {s : State} (hop : s.reqOp = 0x2) (hp : s.reqPage = 0x00)
    (hc : s.cfg.xportErrReporting = true) (ht : ∀ a ∈ s.timer, a ≠ TimerAnswer.pending) :
    BreaksOff (OperationKeeps False s 0x00) s
      (respondResult (captureFrames 9
        (framePhase .bprime (burstTx s.cfg.burst 0) 0x00 (selectPage 0x00 (pageDecision .bprime s)))))
      (selectPlan s 0x00 ++ burstPlan s) := by
  have hg := (restsWhenIdle_respondResult.captureFrames 9).framePhase (x := .bprime) (burstTx s.cfg.burst 0) 0x00 rfl
  refine select_breaksOff
    (g := fun u => respondResult (captureFrames 9 (framePhase .bprime (burstTx s.cfg.burst 0) 0x00 u))) hp
    (by rw [hop]; rfl) (by simp) (by simp) hc ht hg fun u hu hcfg hk => ?_
  rw [burstPlan_eq, ← hcfg]
  exact burstFrames_breaksOff hu hk

/-- Settles O43: the operation is its page select, where there is one, and its access frames, each of which is either
broken off or completes. -/
theorem reportedErrorAbortsTheOperation : Obligations.ReportedErrorAbortsTheOperation := by
  intro s i page access good rest hs hc ht hop hl plan hn
  obtain ⟨dr, hcheck, hdr⟩ := exists_checked_eq s
  obtain ⟨t, he, h⟩ : ∃ t, exec i s = .next t ∧ BreaksOff (OperationKeeps (i ≠ .readBurst) s page) s t plan := by
    obtain ⟨off, rfl, ho, rfl⟩ | ⟨off, v, rfl, ho, rfl⟩ | ⟨rfl, rfl, rfl⟩ := hop
    · have h := registerAccess_breaksOff (page := page) off 0x00 0x00 0x00
        (s := { s with host := s.host.drop 2, devRecovering := dr, reqOp := 0x0, reqPage := page, reqOff := off })
        readReg_frames rfl rfl rfl hc ht
      exact ⟨_, by rw [exec_readReg_of_idle hs ho, runReadReg, hcheck, accept_readReg],
        h.of_start (fun _ _ k => ⟨k.curPage, k.rdata, fun _ => k.bbuf trivial⟩) rfl rfl rfl hdr⟩
    · have h := registerAccess_breaksOff (page := page) (wloB0 off) (lowByte v) (whiB0 off) (highByte v)
        (s := { s with
          host := s.host.drop 2, devRecovering := dr, reqOp := 0x1, reqPage := page, reqOff := off, reqData := v })
        writeReg_frames rfl rfl rfl hc ht
      exact ⟨_, by rw [exec_writeReg_of_idle hs ho, runWriteReg, hcheck, accept_writeReg],
        h.of_start (fun _ _ k => ⟨k.curPage, k.rdata, fun _ => k.bbuf trivial⟩) rfl rfl rfl hdr⟩
    · have h := burst_breaksOff
        (s := { s with host := s.host.drop 2, devRecovering := dr, reqOp := 0x2, reqPage := 0x00, reqOff := 0x00 })
        rfl rfl hc ht
      exact ⟨_, by rw [exec_readBurst_of_idle hs, runReadBurst, hcheck, accept_readBurst],
        h.of_start (fun _ _ k => ⟨k.curPage, k.rdata, fun h => absurd rfl h⟩) rfl rfl rfl hdr⟩
  obtain ⟨rx, hrx, ha, hk⟩ := h good rest hl hn
  obtain ⟨d, hd⟩ := ha.devPage
  exact ⟨rx, t, d, he, hrx, ha.bus, ha.fsm, ha.csLine, ha.xfault, ha.xport, ha.responses, hd, hk.curPage, hk.bbuf,
    hk.rdata⟩

end Sys2Proof.Machine
end

section
/-! SUPPORT. All that RESET_DEV leaves when its timer answers: the pulse, the acknowledgement, and the recovery window
(R33, R120 to R123). -/

namespace Sys2Proof.Machine

/-- All that RESET_DEV changes, of the idle block it began in: it passes seven of the host's turns, and only the last,
between the `RST(deassert)` and the response, can end the recovery window (R33, R120 to R123; log 15). -/
theorem resetDone_eq (ms : Word) (s : State) :
    resetDone ms s =
      { s with
        fsm := .idle, fpos := .csOn, rpos := .lineOn, waiting := false, aborting := false, rstLine := false
        reqOp := 0x3, reqPage := 0x00, reqOff := 0x00, reqData := ms
        curPage := if s.cfg.resetResyncsPage then 0x00 else s.curPage
        devPage := pagePulsed ms s
        devRecovering := s.host[6]? != some .recovered
        pageDraws := s.pageDraws + 1
        timer := s.timer.drop 1, host := s.host.drop 7
        bus := s.bus ++ [.rst true, .waitMs ms.toNat, .rst false]
        responses := s.responses ++ [⟨.ok, xfaultOut s, .none⟩] } := by
  rw [resetDone, respondResult_goto_resp, hostTurn_devRecovering]
  simp [resultPayload, xfaultOut, List.head?_drop]

/-- Settles O35: the draw of a pulse that is too short is the next one of the device's page. -/
theorem resetDevPulsesTheLine : Obligations.ResetDevPulsesTheLine := by
  intro s ms hs ht
  refine ⟨resetDone ms s, s.pageDraws, exec_resetDev_of_idle hs (timerEnds_of_responsive ht), ?_⟩
  rw [resetDone_eq, pagePulsed]

end Sys2Proof.Machine
end

section
/-! SUPPORT. The scaling unit's error (R130): a rounding is to nearest, ties to even, keeps a value that needs none, and
has a relative error of at most half a unit; then the error of a scaled value. -/

namespace Sys2Proof.Machine

/-! ### To nearest, ties to even -/

/-- Both bounds over the common denominator. -/
theorem rneDiv_error {n d : Nat} (hd : 0 < d) :
    2 * |(n : Int) - d * rneDiv n d| ≤ d ∧ (2 * |(n : Int) - d * rneDiv n d| = d → rneDiv n d % 2 = 0) := by
  have hn : (n : Int) = d * (n / d : Nat) + (n % d : Nat) := by exact_mod_cast (Nat.div_add_mod n d).symm
  have hr := Nat.mod_lt n hd
  unfold rneDiv
  split
  next h =>
    have hup : (n : Int) - d * (n / d + 1 : Nat) = -(d - n % d : Nat) := by
      rw [Nat.cast_sub hr.le, Nat.cast_add_one]
      linear_combination hn
    rw [hup, abs_neg, Nat.abs_cast]
    omega
  next h =>
    rw [sub_eq_of_eq_add' hn, Nat.abs_cast]
    omega

/-- The quotient is rounded to a nearest integer, and to the even one of two. -/
theorem rneDiv_nearest {n d : Nat} (hd : 0 < d) :
    2 * |(n : ℚ) / d - rneDiv n d| ≤ 1 ∧ (2 * |(n : ℚ) / d - rneDiv n d| = 1 → rneDiv n d % 2 = 0) := by
  obtain ⟨hle, heven⟩ := rneDiv_error (n := n) hd
  have hd' : (0 : ℚ) < d := Nat.cast_pos.2 hd
  have e : 2 * |(n : ℚ) / d - rneDiv n d| = ((2 * |(n : Int) - d * rneDiv n d| : Int) : ℚ) / d := by
    rw [div_sub' hd'.ne', abs_div, abs_of_pos hd']
    push_cast
    ring
  rw [e, div_le_one hd', div_eq_one_iff_eq hd'.ne']
  exact ⟨by exact_mod_cast hle, fun h => heven (by exact_mod_cast h)⟩

/-- A power of two as a quotient of natural powers. -/
theorem two_zpow_eq_div (k : Int) : (2 : ℚ) ^ k = 2 ^ k.toNat / 2 ^ (-k).toNat := by
  rw [← zpow_natCast, ← zpow_natCast, ← zpow_sub₀ two_ne_zero, Int.toNat_sub_toNat_neg]

theorem scaledNum_div_scaledDen (n d : Nat) (k : Int) :
    (scaledNum n k : ℚ) / scaledDen d k = (n : ℚ) / d * (2 : ℚ) ^ k := by
  simp [scaledNum, scaledDen, two_zpow_eq_div k, div_mul_div_comm]

section
variable {p d : Nat} {n : Int}

/-- A rounding in its own unit `2 ^ e`: the magnitude is `N / D` units, at least `2 ^ (p - 1)` and less than `2 ^ p`,
and is rounded to an integer. -/
theorem exists_roundRat_eq (hp : 1 ≤ p) (hd : 0 < d) (h0 : n ≠ 0) :
    ∃ (N D : Nat) (e : Int), 0 < D ∧ D * 2 ^ (p - 1) ≤ N ∧ N < D * 2 ^ p ∧
      (n : ℚ) / d = n.sign * ((N : ℚ) / D * (2 : ℚ) ^ e) ∧ roundRat p n d = ⟨n.sign * rneDiv N D, e⟩ := by
  obtain ⟨hl, hu⟩ := normShift_spec hp (Int.natAbs_ne_zero.2 h0) hd.ne'
  have hD : 0 < scaledDen d (normShift p n.natAbs d) := Nat.mul_pos hd (Nat.two_pow_pos _)
  have hn : (n.sign : ℚ) * n.natAbs = n := by
    rw [← Int.cast_natCast, ← Int.cast_mul, Int.sign_mul_natAbs]
  refine ⟨_, _, -normShift p n.natAbs d, hD, hl, hu, ?_, if_neg h0⟩
  rw [scaledNum_div_scaledDen, mul_assoc, ← zpow_add₀ two_ne_zero, add_neg_cancel, zpow_zero, mul_one, ← mul_div_assoc,
    hn]

theorem abs_sign_mul (h0 : n ≠ 0) (q : ℚ) : |(n.sign : ℚ) * q| = |q| := by
  rw [abs_mul, ← Int.cast_abs, Int.abs_sign_of_ne_zero h0, Int.cast_one, one_mul]

/-- Settles O49: in its own unit the rounding is the one of an integer quotient. -/
theorem roundingIsToNearestEven : Obligations.RoundingIsToNearestEven := by
  intro p n d hp hd h0
  obtain ⟨N, D, e, hD, hl, hu, hval, hx⟩ := exists_roundRat_eq hp hd h0
  obtain ⟨hm1, hm2⟩ := rneDiv_bounds hl hu
  obtain ⟨hnear, heven⟩ := rneDiv_nearest (n := N) hD
  have hD' : (0 : ℚ) < D := Nat.cast_pos.2 hD
  have hunit : (0 : ℚ) < 2 ^ e := zpow_pos two_pos e
  have hmag : |(n : ℚ) / d| = (N : ℚ) / D * 2 ^ e := by rw [hval, abs_sign_mul h0, abs_of_nonneg (by positivity)]
  have herr : 2 * |(n : ℚ) / d - (roundRat p n d).val| = 2 * |(N : ℚ) / D - rneDiv N D| * 2 ^ e := by
    rw [hval, hx, Dyad.val, Int.cast_mul, mul_assoc, ← mul_sub, abs_sign_mul h0, Int.cast_natCast, ← sub_mul, abs_mul,
      abs_of_pos hunit, mul_assoc]
  have hm : (n.sign * (rneDiv N D : Int)).natAbs = rneDiv N D := by
    rw [Int.natAbs_mul, Int.natAbs_sign_of_ne_zero h0, one_mul, Int.natAbs_natCast]
  dsimp only
  rw [hmag, herr, hx, hm, mul_le_mul_iff_of_pos_right hunit, mul_lt_mul_iff_of_pos_right hunit, le_div_iff₀' hD',
    div_lt_iff₀' hD', mul_le_iff_le_one_left hunit, mul_eq_right₀ hunit.ne']
  refine ⟨by exact_mod_cast hl, by exact_mod_cast hu, hm1, hm2, hnear, fun h => ?_⟩
  have := heven h
  exact Int.emod_eq_zero_of_dvd (Dvd.dvd.mul_left (by omega) _)

/-! ### Exact and relative error -/

@[simp] theorem roundRat_zero (p d : Nat) : roundRat p 0 d = ⟨0, 0⟩ := rfl

@[simp] theorem Dyad.val_zero : Dyad.val ⟨0, 0⟩ = 0 := by simp [Dyad.val]

/-- A rounding's unit is no larger than that of a value with at most `p` significant bits. -/
theorem roundRat_e_le (hp : 1 ≤ p) (hd : 0 < d) (h0 : n ≠ 0) {m e : Int} (h : (n : ℚ) / d = m * (2 : ℚ) ^ e)
    (hm : m.natAbs < 2 ^ p) : (roundRat p n d).e ≤ e := by
  obtain ⟨hl, -⟩ := roundingIsToNearestEven p n d hp hd h0
  have hm' : |(m : ℚ)| < 2 ^ p := by rw [← Int.cast_abs, Int.abs_eq_natAbs]; exact_mod_cast hm
  have hunit : (0 : ℚ) < 2 ^ e := zpow_pos two_pos e
  by_contra hlt
  have : |(n : ℚ) / d| < 2 ^ (p - 1) * 2 ^ (roundRat p n d).e := by
    calc |(n : ℚ) / d| = |(m : ℚ)| * 2 ^ e := by rw [h, abs_mul, abs_of_pos hunit]
      _ < 2 ^ p * 2 ^ e := mul_lt_mul_of_pos_right hm' hunit
      _ = 2 ^ (p - 1) * 2 ^ (e + 1) := by
        rw [zpow_add_one₀ two_ne_zero, ← Nat.sub_add_cancel hp, pow_succ, Nat.add_sub_cancel]; ring
      _ ≤ 2 ^ (p - 1) * 2 ^ (roundRat p n d).e :=
        mul_le_mul_of_nonneg_left (zpow_le_zpow_right₀ one_le_two (by omega)) (by positivity)
  exact absurd hl (not_le.2 this)

/-- A value with at most `p` significant bits is not changed by the rounding: its error is a whole number of the
rounding's units, and at most half of one. -/
theorem roundRat_exact (hp : 1 ≤ p) (hd : 0 < d) {m e : Int} (h : (n : ℚ) / d = m * (2 : ℚ) ^ e)
    (hm : m.natAbs < 2 ^ p) : (roundRat p n d).val = (n : ℚ) / d := by
  obtain rfl | h0 := eq_or_ne n 0
  · simp
  obtain ⟨j, hj⟩ := Int.eq_ofNat_of_zero_le (sub_nonneg.2 (roundRat_e_le hp hd h0 h hm))
  obtain ⟨-, -, -, -, hnear, -⟩ := roundingIsToNearestEven p n d hp hd h0
  set x := roundRat p n d
  have hunit : (0 : ℚ) < 2 ^ x.e := zpow_pos two_pos _
  have hdiff : (n : ℚ) / d - x.val = ((m * 2 ^ j - x.m : Int) : ℚ) * 2 ^ x.e := by
    rw [h, Dyad.val, ← sub_add_cancel e x.e, hj, zpow_add₀ two_ne_zero, zpow_natCast]
    push_cast
    ring
  rw [hdiff, abs_mul, abs_of_pos hunit, ← mul_assoc, mul_le_iff_le_one_left hunit] at hnear
  have hzero : m * 2 ^ j - x.m = 0 := by
    have : 2 * |m * 2 ^ j - x.m| ≤ 1 := by exact_mod_cast hnear
    rw [← Int.abs_lt_one_iff]
    omega
  rw [hzero, Int.cast_zero, zero_mul, sub_eq_zero] at hdiff
  exact hdiff.symm

/-- An integer of at most `p` bits is not changed by the rounding. -/
theorem roundRat_int (hn : n.natAbs < 2 ^ p) (hp : 1 ≤ p) : (roundRat p n 1).val = n := by
  simpa using roundRat_exact (d := 1) hp one_pos (m := n) (e := 0) (by simp) hn

/-- The relative error of a rounding is at most half a unit of the last place. -/
theorem roundRat_error (hp : 1 ≤ p) (hd : 0 < d) :
    |(roundRat p n d).val - (n : ℚ) / d| ≤ (1 / 2 ^ p) * |(n : ℚ) / d| := by
  obtain rfl | h0 := eq_or_ne n 0
  · simp
  obtain ⟨hl, -, -, -, hnear, -⟩ := roundingIsToNearestEven p n d hp hd h0
  have h2p : (2 : ℚ) ^ p = 2 ^ (p - 1) * 2 := by rw [← pow_succ, Nat.sub_add_cancel hp]
  rw [abs_sub_comm, one_div_mul_eq_div, le_div_iff₀ (by positivity), h2p]
  calc |(n : ℚ) / d - (roundRat p n d).val| * (2 ^ (p - 1) * 2)
      = 2 ^ (p - 1) * (2 * |(n : ℚ) / d - (roundRat p n d).val|) := by ring
    _ ≤ 2 ^ (p - 1) * 2 ^ (roundRat p n d).e := by gcongr
    _ ≤ |(n : ℚ) / d| := hl

end

/-! ### The rounded operations -/

theorem Dyad.val_eq_div (x : Dyad) : x.val = (dyadNum x : ℚ) / dyadDen x := by
  simp [Dyad.val, dyadNum, dyadDen, two_zpow_eq_div x.e, mul_div_assoc]

theorem dyadDen_pos (x : Dyad) : 0 < dyadDen x := Nat.two_pow_pos _

theorem dyadDen_cast_ne_zero (x : Dyad) : (dyadDen x : ℚ) ≠ 0 := Nat.cast_ne_zero.2 (dyadDen_pos x).ne'

theorem val_mul_val (x y : Dyad) :
    ((dyadNum x * dyadNum y : Int) : ℚ) / (dyadDen x * dyadDen y : Nat) = x.val * y.val := by
  rw [Dyad.val_eq_div, Dyad.val_eq_div, div_mul_div_comm]
  push_cast
  rfl

theorem val_add_val (x y : Dyad) :
    ((dyadNum x * dyadDen y + dyadNum y * dyadDen x : Int) : ℚ) / (dyadDen x * dyadDen y : Nat) = x.val + y.val := by
  rw [Dyad.val_eq_div, Dyad.val_eq_div, div_add_div _ _ (dyadDen_cast_ne_zero x) (dyadDen_cast_ne_zero y)]
  push_cast
  ring

section
variable {p : Nat} (hp : 1 ≤ p) (x y : Dyad)
include hp

theorem fmul_error : |(fmul p x y).val - x.val * y.val| ≤ (1 / 2 ^ p) * |x.val * y.val| := by
  rw [← val_mul_val]
  exact roundRat_error hp (Nat.mul_pos (dyadDen_pos x) (dyadDen_pos y))

theorem fadd_error : |(fadd p x y).val - (x.val + y.val)| ≤ (1 / 2 ^ p) * |x.val + y.val| := by
  rw [← val_add_val]
  exact roundRat_error hp (Nat.mul_pos (dyadDen_pos x) (dyadDen_pos y))

/-- A product with at most `p` significant bits is not changed by the rounding. -/
theorem fmul_exact {m e : Int} (h : x.val * y.val = m * (2 : ℚ) ^ e) (hm : m.natAbs < 2 ^ p) :
    (fmul p x y).val = x.val * y.val := by
  rw [← val_mul_val] at h ⊢
  exact roundRat_exact hp (Nat.mul_pos (dyadDen_pos x) (dyadDen_pos y)) h hm

end

/-! ### The scaled values -/

/-- Both formats are wider than a register word. -/
theorem fmtPrecision_ge (fmt : ScaleFmt) : 24 ≤ fmtPrecision fmt := by cases fmt <;> decide

theorem one_le_fmtPrecision (fmt : ScaleFmt) : 1 ≤ fmtPrecision fmt := by cases fmt <;> decide

theorem s16_lt_precision (fmt : ScaleFmt) (raw : Word) : (s16 raw).natAbs < 2 ^ fmtPrecision fmt :=
  calc (s16 raw).natAbs ≤ 2 ^ 15 := s16_natAbs_le raw
    _ < 2 ^ 24 := by decide
    _ ≤ 2 ^ fmtPrecision fmt := Nat.pow_le_pow_right two_pos (fmtPrecision_ge fmt)

/-- Every raw word is a float of either format. -/
theorem roundRat_s16 (fmt : ScaleFmt) (raw : Word) : (roundRat (fmtPrecision fmt) (s16 raw) 1).val = s16 raw :=
  roundRat_int (s16_lt_precision fmt raw) (one_le_fmtPrecision fmt)

/-- Settles O50: the constant is a power of two, so neither rounding changes anything. -/
theorem accelerationIsExact : Obligations.AccelerationIsExact := by
  intro fmt raw
  have hp := one_le_fmtPrecision fmt
  have hk : (roundRat (fmtPrecision fmt) acclConst.num acclConst.den).val = 1 / 2 :=
    (roundRat_exact hp (by decide) (m := 1) (e := -1) (by norm_num [acclConst]) (Nat.one_lt_two_pow (by omega))).trans
      (by norm_num [acclConst])
  have hprod : (roundRat (fmtPrecision fmt) (s16 raw) 1).val *
      (roundRat (fmtPrecision fmt) acclConst.num acclConst.den).val = s16 raw / 2 := by
    rw [roundRat_s16, hk, mul_one_div]
  rw [← hprod]
  exact fmul_exact hp _ _ (e := -1) (by rw [hprod, zpow_neg_one, div_eq_mul_inv]) (s16_lt_precision fmt raw)

section
variable {u x k k' q o o' y z : ℚ}

theorem sq_le_quarter (hu : 0 ≤ u) (hu' : 4 * u ≤ 1) : u * u ≤ u / 4 :=
  calc u * u ≤ u * (1 / 4) := mul_le_mul_of_nonneg_left (by linarith) hu
    _ = u / 4 := mul_one_div u 4

/-- A rounded factor and a rounded product: two relative errors, and a little for the product of the two. -/
theorem mul_error (hk : |k' - k| ≤ u * |k|) (hy : |y - x * k'| ≤ u * |x * k'|) (hu : 0 ≤ u) (hu' : 4 * u ≤ 1) :
    |y - x * k| ≤ 9 / 4 * u * |x * k| := by
  have hxk : |x * k' - x * k| ≤ u * |x * k| := by
    rw [← mul_sub, abs_mul, abs_mul, mul_left_comm]
    gcongr
  have hxk' : |x * k'| ≤ u * |x * k| + |x * k| := by linarith [abs_sub_abs_le_abs_sub (x * k') (x * k)]
  have hcoef : u * u + 2 * u ≤ 9 / 4 * u := by linarith [sq_le_quarter hu hu']
  calc |y - x * k| ≤ |y - x * k'| + |x * k' - x * k| := abs_sub_le _ _ _
    _ ≤ u * (u * |x * k| + |x * k|) + u * |x * k| := by gcongr; exact hy.trans (by gcongr)
    _ = (u * u + 2 * u) * |x * k| := by ring
    _ ≤ 9 / 4 * u * |x * k| := by gcongr

/-- A product with its error, a rounded offset and a rounded sum. -/
theorem add_error (hy : |y - q| ≤ 9 / 4 * u * |q|) (ho : |o' - o| ≤ u * |o|) (hz : |z - (y + o')| ≤ u * |y + o'|)
    (hu : 0 ≤ u) (hu' : 4 * u ≤ 1) : |z - (q + o)| ≤ 4 * u * (|q| + |o|) := by
  have hsum : |y + o' - (q + o)| ≤ 9 / 4 * u * |q| + u * |o| := by
    rw [add_sub_add_comm]
    exact (abs_add_le _ _).trans (add_le_add hy ho)
  have hsum' : |y + o'| ≤ 9 / 4 * u * |q| + u * |o| + (|q| + |o|) := by
    linarith [abs_sub_abs_le_abs_sub (y + o') (q + o), abs_add_le q o]
  have hcoef : 9 / 4 * (u * u) + 13 / 4 * u ≤ 4 * u := by linarith [sq_le_quarter hu hu']
  have hcoef' : u * u + 2 * u ≤ 4 * u := by linarith [sq_le_quarter hu hu']
  calc |z - (q + o)| ≤ |z - (y + o')| + |y + o' - (q + o)| := abs_sub_le _ _ _
    _ ≤ u * (9 / 4 * u * |q| + u * |o| + (|q| + |o|)) + (9 / 4 * u * |q| + u * |o|) := by
        gcongr
        exact hz.trans (by gcongr)
    _ = (9 / 4 * (u * u) + 13 / 4 * u) * |q| + (u * u + 2 * u) * |o| := by ring
    _ ≤ 4 * u * |q| + 4 * u * |o| := by gcongr
    _ = 4 * u * (|q| + |o|) := by ring

end

/-- The rounding unit of either format is small enough for its square to count as a quarter of it. -/
theorem roundingUnit_small (fmt : ScaleFmt) : 4 * (1 / 2 ^ fmtPrecision fmt) ≤ (1 : ℚ) := by
  rw [mul_one_div, div_le_one (by positivity)]
  calc (4 : ℚ) ≤ 2 ^ 24 := by norm_num
    _ ≤ 2 ^ fmtPrecision fmt := pow_le_pow_right₀ one_le_two (fmtPrecision_ge fmt)

/-- The raw word is exact, so the product has the roundings of the constant and of the multiply. -/
theorem scaled_product_error (fmt : ScaleFmt) {c : ScaleConst} (hc : c.den ≠ 0) (raw : Word) :
    |(fmul (fmtPrecision fmt) (roundRat (fmtPrecision fmt) (s16 raw) 1)
        (roundRat (fmtPrecision fmt) c.num c.den)).val - s16 raw * (c.num / c.den)| ≤
      9 / 4 * (1 / 2 ^ fmtPrecision fmt) * |(s16 raw : ℚ) * (c.num / c.den)| := by
  have hp := one_le_fmtPrecision fmt
  have hk := roundRat_error (n := c.num) hp (Nat.pos_of_ne_zero hc)
  have hy := fmul_error hp (roundRat (fmtPrecision fmt) (s16 raw) 1) (roundRat (fmtPrecision fmt) c.num c.den)
  rw [Int.cast_natCast] at hk
  rw [roundRat_s16] at hy
  exact mul_error hk hy (by positivity) (roundingUnit_small fmt)

/-- Settles O52: the error of the product, and where there is an offset that of the sum. -/
theorem scalingErrorIsBounded : Obligations.ScalingErrorIsBounded := by
  intro fmt c raw hc
  have hp := one_le_fmtPrecision fmt
  have hmul := scaled_product_error fmt (constants_modest hc).den_ne raw
  have hmag : |(s16 raw : ℚ)| * ((c.num : ℚ) / c.den) + c.off = |(s16 raw : ℚ) * (c.num / c.den)| + |(c.off : ℚ)| := by
    rw [abs_mul, abs_div, Nat.abs_cast, Nat.abs_cast, Nat.abs_cast]
  rw [hmag, mul_div_right_comm, ← mul_one_div (4 : ℚ), exactScale, scale]
  split
  next h0 =>
    rw [h0, Nat.cast_zero, add_zero, abs_zero, add_zero]
    refine hmul.trans ?_
    gcongr
    norm_num
  next =>
    have ho := roundRat_error (p := fmtPrecision fmt) (n := c.off) hp one_pos
    rw [Nat.cast_one, div_one, Int.cast_natCast] at ho
    exact add_error hmul ho (fadd_error hp _ _) (by positivity) (roundingUnit_small fmt)

/-- Settles O51, by the five computations. -/
theorem scalingWorkedExamples : Obligations.ScalingWorkedExamples :=
  ⟨rfl, rfl, rfl, rfl, rfl⟩

end Sys2Proof.Machine
end

section
/-! SUPPORT. The scaling requests as operations (R130 to R135): one response, and no bus event. -/

namespace Sys2Proof.Machine

/-- A scaling request's result is the float of its constants (R131 to R135). -/
def AnswersFloat (op : BitVec 4) (c : ScaleConst) : Prop :=
  ∀ s : State, s.reqOp = op → resultPayload s = scalePayload s.cfg.scaleFmt c s.reqData

theorem accl_answersFloat : AnswersFloat 0x8 acclConst := fun s h => by rw [resultPayload, h]; rfl
theorem gyro_answersFloat : AnswersFloat 0x9 gyroConst := fun s h => by rw [resultPayload, h]; rfl
theorem temp_answersFloat : AnswersFloat 0xA tempConst := fun s h => by rw [resultPayload, h]; rfl
theorem dang_answersFloat : AnswersFloat 0xB dangConst := fun s h => by rw [resultPayload, h]; rfl
theorem dvel_answersFloat : AnswersFloat 0xC dvelConst := fun s h => by rw [resultPayload, h]; rfl

/-- The latches a scaling request writes when it is accepted (R23; log 11). -/
def latched (op : BitVec 4) (raw : Word) (s : State) : State :=
  { s with reqOp := op, reqPage := 0x00, reqOff := 0x00, reqData := raw }

/-- All that a scaling request changes, of the idle block it began in: three of the host's turns pass (log 15). -/
def scaleDone (op : BitVec 4) (c : ScaleConst) (raw : Word) (s : State) : State :=
  { s with
    fsm := .idle, fpos := .csOn, rpos := .lineOn, waiting := false, aborting := false
    reqOp := op, reqPage := 0x00, reqOff := 0x00, reqData := raw
    host := s.host.drop 3
    devRecovering := s.devRecovering && !(s.host.take 3).contains .recovered
    responses := s.responses ++ [⟨.ok, xfaultOut s, scalePayload s.cfg.scaleFmt c raw⟩] }

/-- The third turn of the host is the response's. -/
theorem hostTurn_latched_checked_devRecovering (op : BitVec 4) (raw : Word) (s : State) :
    (hostTurn (latched op raw (checked s))).devRecovering =
      (s.devRecovering && !(s.host.take 3).contains .recovered) := by
  rw [hostTurn_devRecovering, ← turns_devRecovering]
  exact (hostTurn_devRecovering (checked s)).symm

theorem respondResult_latched {op : BitVec 4} {c : ScaleConst} (hc : AnswersFloat op c) (raw : Word) (s : State) :
    respondResult (goto .resp (latched op raw (checked s))) = scaleDone op c raw s := by
  rw [respondResult_goto_resp, hc _ rfl, hostTurn_latched_checked_devRecovering, checked_turns, turns_eq]
  simp only [latched, scaleDone, List.drop_drop]
  rfl

/-- A scaling request on an idle block runs to its response. -/
theorem operate_scale {i : Instr} {op : BitVec 4} {c : ScaleConst} {raw : Word} {s : State} (hs : s.fsm = .idle)
    (hc : AnswersFloat op c) (hi : ∀ t, accept i t = goto .resp (latched op raw t)) :
    operate i (fun t => respondResult (accept i t)) s = .next (scaleDone op c raw s) := by
  rw [operate_of_idle hs, hi, respondResult_latched hc]

/-- Settles O36: each request is an operation whose result is the float of its constants. -/
theorem scalingAnswersOneFloat : Obligations.ScalingAnswersOneFloat := fun _ _ hs =>
  ⟨operate_scale hs accl_answersFloat fun _ => rfl, operate_scale hs gyro_answersFloat fun _ => rfl,
    operate_scale hs temp_answersFloat fun _ => rfl, operate_scale hs dang_answersFloat fun _ => rfl,
    operate_scale hs dvel_answersFloat fun _ => rfl⟩

end Sys2Proof.Machine
end

section
/-! SUPPORT. Every step goes on (R145), and the steps in which no operation runs: an idle block waits (R153), a block
whose agents do not answer is stuck (R154), and a refusal changes nothing else (R142). -/

namespace Sys2Proof.Machine

/-- Settles O18: every step is a run of ticks, and no tick writes the parameters. -/
theorem everyStepGoesOn : Obligations.EveryStepGoesOn := by
  intro s
  obtain ⟨t, ht, -⟩ := step_run s
  exact ⟨t, ht, step_cfg ht⟩

/-! ### Ticks in which the block does nothing -/

/-- The host's turn, with what it does to the recovery window written out (R33). -/
theorem hostTurn_eq_window (s : State) :
    hostTurn s =
      { s with
        host := s.host.tail
        devRecovering := s.devRecovering && s.host.head? != some .recovered } := by
  rw [← hostTurn_devRecovering]; exact hostTurn_eq s

theorem inFrame_of_frameKindAt {s : State} {k : FrameKind} (h : frameKindAt s = some k) : inFrame s.fsm = true := by
  cases hx : s.fsm <;> simp_all [frameKindAt, inFrame]

/-- A busy block that is not at the start of a frame fetches nothing: its step is one tick (log 6). -/
theorem step_of_not_frameStart {s : State} (hi : s.fsm ≠ .idle) (h : inFrame s.fsm = false ∨ s.fpos ≠ .csOn) :
    step s = .next (tick s) := by
  obtain hf | ⟨k, hp, -, hk, -⟩ := fetchFrame_cases s
  · exact step_of_fetch_none ((fetch_of_busy hi).trans hf)
  · obtain h | h := h
    · simp [inFrame_of_frameKindAt hk] at h
    · exact absurd hp h

theorem xferAnswer_of_silent {s : State} {l : List XferAnswer} (h : s.xport = .silent :: l) :
    xferAnswer s = .silent := by
  rw [xferAnswer, h]

/-- An exchange without an answer leaves the block at it (R154). -/
theorem frameAct_of_silent {x : Fsm} {b0 b1 : Byte} {s : State} (hp : s.fpos = .b0 ∨ s.fpos = .b1)
    (h : xferAnswer s = .silent) : frameAct x b0 b1 s = s := by
  obtain hp | hp := hp
  · simp only [frameAct, hp, xferFirst, h]
  · simp only [frameAct, hp, xferSecond, h]

theorem timerEnds_of_pending {s : State} {l : List TimerAnswer} (h : s.timer = .pending :: l) :
    timerEnds s = false := by
  rw [timerEnds, h]

/-- An emitted wait that the timer does not end leaves the block in it (R154). -/
theorem waitAct_of_pending {e : BusEvent} {next : State → State} {s : State} {l : List TimerAnswer}
    (hw : s.waiting = true) (h : s.timer = .pending :: l) : waitAct e next s = s := by
  rw [waitAct, if_pos hw, timerEnds_of_pending h]; rfl

/-- Settles O24: nothing is fetched, and the tick is the host's turn. -/
theorem idleBlockWaits : Obligations.IdleBlockWaits := by
  intro s hs ho
  have ht : tick s = hostTurn s := by
    rw [tick, act_of_idle (by simpa using hs), idleAct, hostTurn_offered, ho]
  rw [step_of_fetch_none (fetch_of_idle_none hs ho), ht, hostTurn_eq_window]

/-- Settles O25: none of the three positions starts a frame, so the step is a tick, in which the block does nothing. -/
theorem unansweredBlockIsStuck : Obligations.UnansweredBlockIsStuck := by
  intro s h
  rw [← hostTurn_eq_window]
  obtain ⟨hf, hp, l, hl⟩ | ⟨hx, hw, l, hl⟩ | ⟨hx, hp, hw, l, hl⟩ := h
  · have hstart : s.fpos ≠ .csOn := by obtain hp | hp := hp <;> simp [hp]
    rw [step_of_not_frameStart (inFrame_ne hf).1 (.inr hstart), tick_of_inFrame hf,
      frameAct_of_silent (by simpa using hp) (xferAnswer_of_silent (by simpa using hl))]
  · rw [step_of_not_frameStart (inWait_ne hx).1 (.inl (inFrame_of_inWait hx)), tick, act_of_inWait (by simpa using hx),
      stallAct, waitAct_of_pending (by simpa using hw) (by simpa using hl)]
  · rw [step_of_not_frameStart (by simp [hx]) (.inl (by rw [hx]; rfl)), tick, act_of_rst (by simpa using hx), resetAct,
      hostTurn_rpos, hp]
    exact congrArg _ (waitAct_of_pending (by simpa using hw) (by simpa using hl))

/-! ### Refusals -/

/-- Settles O30: from `S_IDLE` the step runs the checks too, and from `S_CHECK` it is their tick. -/
theorem refusedRequestChangesNothing : Obligations.RefusedRequestChangesNothing := by
  intro s w rest c hs ho hd
  obtain hs | hs := hs
  · have ht : taken (.request w) s = { s with offered := rest } := by simp [taken, ho]
    refine ⟨refuse c (checked { s with offered := rest }), ?_, ?_⟩
    · rw [step_of_fetch (fetch_request hs ho), ← ht]; exact runFetched_refused hd
    · rw [refuse_checked]; rfl
  · refine ⟨refuse c { hostTurn s with offered := rest }, ?_, ?_⟩
    · rw [step_of_not_frameStart (by simp [hs]) (.inl (by rw [hs]; rfl)), tick, act_of_check (by simpa using hs),
        checkAct_of_refused (by simpa using ho) hd]
    · rw [hostTurn_eq]; rfl

end Sys2Proof.Machine
end

section
/-! SUPPORT. With agents that answer, a request runs to one response, whether its exchanges return bytes or a reported
error (R140, R143, R146). -/

namespace Sys2Proof.Machine

/-! ### Ended operations -/

/-- The operation that began in `s` has ended in `t` with one response, which is OK, or FLT_TRANSPORT where errors are
reported (R140, R143). -/
structure Answered (s t : State) : Prop where
  fsm : t.fsm = .idle
  response : ∃ r : Response, t.responses = s.responses ++ [r] ∧
    (r.status = .ok ∨ (r.status = .fltTransport ∧ s.cfg.xportErrReporting = true))

/-- The operation that began in `s` has come to the start of the position `x` with no response, and the agents of `u`
answer. -/
structure Reached (s : State) (x : Fsm) (u : State) : Prop where
  fsm : u.fsm = x
  fpos : u.fpos = .csOn
  aborting : u.aborting = false
  responsive : u.Responsive
  cfg : u.cfg = s.cfg
  responses : u.responses = s.responses

theorem Answered.of_start {s u t : State} (h : Answered u t) (hc : u.cfg = s.cfg) (hr : u.responses = s.responses) :
    Answered s t :=
  ⟨h.fsm, by rw [← hc, ← hr]; exact h.response⟩

/-- A broken-off operation has ended, where errors are reported (R143). -/
theorem Aborted.answered {s u t : State} {x : Fsm} {events : List BusEvent} {rest : List XferAnswer}
    (h : Aborted u t events rest) (hu : Reached s x u) (hc : u.cfg.xportErrReporting = true) : Answered s t :=
  ⟨h.fsm, _, by rw [h.responses, hu.responses], .inr ⟨rfl, by rw [← hu.cfg, hc]⟩⟩

/-- The response of a completed operation ends it (R74). -/
theorem answered_respondResult {s u : State} (hx : u.fsm = .resp) (hr : u.responses = s.responses) :
    Answered s (respondResult u) := by
  rw [respondResult_of_resp hx]
  exact ⟨rfl, _, by rw [respond_responses, hostTurn_responses, hr], .inl rfl⟩

/-! ### Frames -/

/-- With agents that answer, a frame and its stall complete, or a reported error ends the operation (R143, R164). -/
theorem Reached.framePhase {s u : State} {x : Fsm} (h : Reached s x u) (hx : inFrame x = true) (b0 b1 : Byte) :
    Answered s (framePhase x b0 b1 u) ∨
    ∃ r0 r1, framePhase x b0 b1 u = afterStall (stallOf x) (framed x b0 b1 r0 r1 u) := by
  by_cases he : u.NoReportedError
  · obtain ⟨r0, r1, e, -, -⟩ := framePhase_responsive (b0 := b0) (b1 := b1) h.fsm h.fpos h.aborting h.responsive he
    exact .inr ⟨r0, r1, e⟩
  obtain ⟨hc, herr⟩ : u.cfg.xportErrReporting = true ∧ XferAnswer.err ∈ u.xport := by simpa using he
  have hu : ReportingAt x u := ⟨h.fsm, h.fpos, h.aborting, hc, h.responsive.2⟩
  match hl : u.xport with
  | .err :: _ => exact .inl ((framePhase_fails_first b0 b1 hx hu hl).1.answered h hc)
  | .byte _ :: .err :: _ =>
    obtain ⟨_, -, ha, -⟩ := framePhase_fails_second b0 b1 hx hu hl
    exact .inl (ha.answered h hc)
  | .byte _ :: .byte _ :: _ =>
    obtain ⟨r0, r1, e, -, -⟩ := framePhase_listed b0 b1 hu hl
    exact .inr ⟨r0, r1, e⟩
  | .silent :: _ | .byte _ :: .silent :: _ => exact absurd rfl (h.responsive.1 .silent (by simp [hl]))
  | [] | [.byte _] => simp [hl] at herr

/-- An operation that has a frame to emit ends if what follows the completed frame does. -/
theorem RestsWhenIdle.answered_framePhase {g : State → State} {s u : State} {x : Fsm} {b0 b1 : Byte}
    (hg : RestsWhenIdle g) (hx : inFrame x = true) (h : Reached s x u)
    (next : ∀ r0 r1, Answered s (g (afterStall (stallOf x) (framed x b0 b1 r0 r1 u)))) :
    Answered s (g (Machine.framePhase x b0 b1 u)) := by
  obtain ha | ⟨r0, r1, e⟩ := h.framePhase hx b0 b1
  · rwa [hg _ ha.fsm]
  · rw [e]; exact next r0 r1

/-- After a completed frame the next position is reached with the agents' remaining answers. -/
theorem Reached.next {s u v : State} {x : Fsm} (h : Reached s x u) (y : Fsm) (hc : v.cfg = u.cfg)
    (hr : v.responses = u.responses) (hx : v.xport = u.xport.drop 2) (ht : v.timer = u.timer.drop 1) :
    Reached s y (goto y v) :=
  ⟨rfl, rfl, rfl, h.responsive.of_drop 2 1 hx ht, hc.trans h.cfg, hr.trans h.responses⟩

/-! ### The operations -/

/-- The page decision and its page select, before the frames of the access `g` (R80, R81). -/
theorem select_answered {g : State → State} {first : Fsm} {page : Byte} {s : State}
    (hf : firstState s.reqOp = first) (h1 : first ≠ .psel) (h2 : first ≠ .pselWait) (hr : s.Responsive)
    (hg : RestsWhenIdle g) (hnext : ∀ u, Reached s first u → Answered s (g u)) :
    Answered s (g (selectPage page (pageDecision first s))) := by
  unfold selectPage
  obtain ⟨-, e⟩ | ⟨-, e⟩ := pageDecision_cases first s <;> rw [e]
  · rw [framePhase_of_ne (by simpa using h1) (by simpa [stallOf] using h2)]
    exact hnext _ ⟨rfl, rfl, rfl, hr, rfl, rfl⟩
  · have hu : Reached s .psel (goto .psel s) := ⟨rfl, rfl, rfl, hr, rfl, rfl⟩
    refine hg.answered_framePhase rfl hu fun r0 r1 => hnext _ ?_
    rw [← hf]
    exact hu.next _ rfl rfl rfl rfl

/-- A register access from its page decision on: two frames and the response (R84, R85). -/
theorem registerAccess_answered {x y : Fsm} {page : Byte} (b0 b1 c0 c1 : Byte) {s : State}
    (hf : AccessFrames s.reqOp x y) (hx : inFrame x = true) (hy : inFrame y = true)
    (hlast : ∀ v, (afterStall (stallOf y) v).fsm = .resp) (hr : s.Responsive) :
    Answered s (respondResult (framePhase y c0 c1 (framePhase x b0 b1 (selectPage page (pageDecision x s))))) := by
  have hg := restsWhenIdle_respondResult.framePhase c0 c1 hy
  have hg' := hg.framePhase b0 b1 hx
  refine select_answered (g := fun u => respondResult (framePhase y c0 c1 (framePhase x b0 b1 u))) hf.first
    hf.notSelect.1 hf.notSelect.2 hr hg' fun u hu => ?_
  refine RestsWhenIdle.answered_framePhase (g := fun u => respondResult (framePhase y c0 c1 u)) hg hx hu fun r0 r1 => ?_
  rw [hf.next]
  have hv : Reached s y (goto y (framed x b0 b1 r0 r1 u)) := hu.next y rfl rfl rfl rfl
  refine restsWhenIdle_respondResult.answered_framePhase hy hv fun _ _ => answered_respondResult (hlast _) ?_
  rw [afterStall_responses]
  exact hv.responses

/-- The captures of a burst from number `9 - n` on, and the response after the ninth (R102). -/
theorem captureFrames_answered (n : Nat) {s u : State} (hu : Reached s .bcap u) (hk : u.bk.toNat + n = 9)
    (h1 : 1 ≤ u.bk.toNat) : Answered s (respondResult (captureFrames (n + 1) u)) := by
  have hg := restsWhenIdle_respondResult.captureFrames n
  refine RestsWhenIdle.answered_framePhase (g := fun u => respondResult (captureFrames n u)) (x := .bcap) hg rfl hu
    fun r0 r1 => ?_
  cases n with
  | zero =>
    have h9 : u.bk = 9 := BitVec.eq_of_toNat_eq hk
    rw [captureFrames, stallOf, afterStall_bcapWait_last (u := framed ..) h9]
    exact answered_respondResult rfl hu.responses
  | succ n =>
    have h8 : u.bk.toNat ≤ 8 := by omega
    rw [stallOf, afterStall_bcapWait_next (u := framed ..) h1 h8]
    have hb : (u.bk + 1).toNat = u.bk.toNat + 1 := by bv_omega
    exact captureFrames_answered n (hu.next .bcap rfl rfl rfl rfl) (by rw [goto_bk, framed, hb]; omega)
      (by rw [goto_bk, framed, hb]; omega)

/-- A burst from its page decision on: the priming frame, nine captures and the response (R101, R102). -/
theorem burst_answered (b0 : Byte) {s : State} (hop : s.reqOp = 0x2) (hr : s.Responsive) :
    Answered s (respondResult (captureFrames 9
      (framePhase .bprime b0 0x00 (selectPage 0x00 (pageDecision .bprime s))))) := by
  have hg := restsWhenIdle_respondResult.captureFrames 9
  have hg' := hg.framePhase (x := .bprime) b0 0x00 rfl
  refine select_answered (g := fun u => respondResult (captureFrames 9 (framePhase .bprime b0 0x00 u)))
    (by rw [hop]; rfl) (by simp) (by simp) hr hg' fun u hu => ?_
  refine RestsWhenIdle.answered_framePhase (g := fun u => respondResult (captureFrames 9 u)) hg rfl hu fun r0 r1 =>
    captureFrames_answered 8 ?_ rfl le_rfl
  exact hu.next .bcap rfl rfl rfl rfl

/-- A request that needs no agent ends with its response (R130). -/
theorem operate_answered {i : Instr} {s : State} (hs : s.fsm = .idle) (hi : ∀ u, (accept i u).fsm = .resp) :
    ∃ t, operate i (fun u => respondResult (accept i u)) s = .next t ∧ Answered s t :=
  ⟨_, operate_of_idle hs, answered_respondResult (hi _) (by simp [checked])⟩

/-- Every well-formed request on an idle block whose agents answer ends with one response. -/
theorem exec_request_answered {i : Instr} {s : State} (hi : i.isRequest = true) (hw : i.wellFormed = true)
    (hs : s.fsm = .idle) (hr : s.Responsive) : ∃ t, exec i s = .next t ∧ Answered s t := by
  have hcfg : (checked s).cfg = s.cfg := by simp [checked]
  have hresp : (checked s).responses = s.responses := by simp [checked]
  cases i with
  | readReg page off =>
    have h := registerAccess_answered (page := page) off 0x00 0x00 0x00
      (s := { checked s with reqOp := 0x0, reqPage := page, reqOff := off })
      readReg_frames rfl rfl (fun _ => rfl) hr.checked
    exact ⟨_, exec_readReg_of_idle hs hw, h.of_start hcfg hresp⟩
  | writeReg page off v =>
    have h := registerAccess_answered (page := page) (wloB0 off) (lowByte v) (whiB0 off) (highByte v)
      (s := { checked s with reqOp := 0x1, reqPage := page, reqOff := off, reqData := v })
      writeReg_frames rfl rfl (fun _ => rfl) hr.checked
    exact ⟨_, exec_writeReg_of_idle hs hw, h.of_start hcfg hresp⟩
  | readBurst =>
    have h := burst_answered (burstTx (checked s).cfg.burst 0)
      (s := { checked s with reqOp := 0x2, reqPage := 0x00, reqOff := 0x00 }) rfl hr.checked
    exact ⟨_, exec_readBurst_of_idle hs, h.of_start hcfg hresp⟩
  | resetDev ms =>
    exact ⟨_, exec_resetDev_of_idle hs (timerEnds_of_responsive hr.2), answered_respondResult rfl rfl⟩
  | scaleAccl raw | scaleGyro raw | scaleTemp raw | scaleDang raw | scaleDvel raw =>
    exact operate_answered hs fun _ => rfl
  | psel _ | raddr _ | rdata | wlo _ _ | whi _ _ | breq _ | bend _ => cases hi

/-- Settles O42, from the ends of the nine requests. -/
theorem answeredRequestEnds : Obligations.AnsweredRequestEnds := by
  intro s i hs hi hw hr
  obtain ⟨t, ht, hidle, r, hresp, hst⟩ := exec_request_answered hi hw hs hr
  exact ⟨t, r, ht, hidle, hresp, hst⟩

end Sys2Proof.Machine
end

section
/-! SUPPORT. The stall after a frame (R149, R164): the end of a frame leads to its wait state, and a tick there emits
the wait, goes on waiting, or leaves for what follows (R10, R21). -/

namespace Sys2Proof.Machine

/-! ### A tick in a wait state -/

/-- In a wait state a tick is the host's turn and the wait's next part. -/
theorem tick_of_inWait {s : State} (h : inWait s.fsm = true) : tick s = stallAct s.fsm (hostTurn s) := by
  rw [tick, act_of_inWait (by simpa using h), hostTurn_fsm]

@[simp] theorem timerEnds_hostTurn (s : State) : timerEnds (hostTurn s) = timerEnds s := by simp [timerEnds]

/-- A wait that is not yet emitted is emitted, whatever the timer answers (R10). -/
theorem tick_of_unemitted {s : State} (h : inWait s.fsm = true) (hw : s.waiting = false) :
    tick s = emit (.waitUs (stallUs s.fsm s.cfg)) { hostTurn s with waiting := true } := by
  simp [tick_of_inWait h, stallAct, waitAct, hw]

/-- A wait that the timer does not end goes on (R154). -/
theorem tick_of_pending {s : State} (h : inWait s.fsm = true) (hw : s.waiting = true) (ht : timerEnds s = false) :
    tick s = hostTurn s := by
  simp [tick_of_inWait h, stallAct, waitAct, hw, ht]

/-- When the timer ends the wait, what follows it in the sequence is next (R10, R21). -/
theorem tick_of_elapsed {s : State} (h : inWait s.fsm = true) (hw : s.waiting = true) (ht : timerEnds s = true) :
    tick s = afterStall s.fsm (waited (hostTurn s)) := by
  simp [tick_of_inWait h, stallAct, waitAct, hw, ht]

theorem timerEnds_of_ne_pending {s : State} (h : ∀ l, s.timer ≠ TimerAnswer.pending :: l) : timerEnds s = true := by
  unfold timerEnds
  split
  · exact absurd ‹_› (h _)
  · rfl

/-! ### The wait state's length and successor -/

/-- The stall of a burst frame is the burst stall, that of every other frame the plain one (R149). -/
theorem stallUs_stallOf {x : Fsm} (h : inFrame x = true) (c : Params) :
    stallUs (stallOf x) c = if x = .bprime ∨ x = .bcap then c.tBurstStallUs else c.tStallUs := by
  cases x with
  | psel | raddr | rdata | wlo | whi | bprime | bcap => simp [stallUs, stallOf]
  | _ => cases h

/-- No operation begins in a wait state (R21). -/
theorem firstState_not_inWait (op : BitVec 4) : inWait (firstState op) = false := by
  revert op; decide

/-- No wait state follows another, so each frame has one stall (R21). -/
theorem afterStall_not_inWait {x : Fsm} (s : State) (h : inWait x = true) : inWait (afterStall x s).fsm = false := by
  cases x with
  | pselWait => exact firstState_not_inWait s.reqOp
  | bcapWait => obtain ⟨-, e⟩ | ⟨-, e⟩ := nextCapture_cases (captureBurst s) <;> rw [afterStall, e] <;> rfl
  | raddrWait | rdataWait | wloWait | whiWait | bprimeWait => rfl
  | _ => cases h

/-- Settles O29: the frame's end leads to the wait state, and there the wait is emitted, then goes on as long as the
timer is pending, and then the block leaves for a position that is no wait state. -/
theorem everyFrameIsFollowedByItsStall : Obligations.EveryFrameIsFollowedByItsStall := by
  refine ⟨fun s hf hp ha => ?ends, fun s x hx hs hw => ?emitted, fun s x hx hs hw => ?waits⟩
  case ends =>
    rw [tick_csOff hf hp, ha]
    simp
  all_goals have h : inWait s.fsm = true := hs ▸ inWait_stallOf hx
  case emitted =>
    rw [tick_of_unemitted h hw, hs, stallUs_stallOf hx]
    simp [hs]
  case waits =>
    refine ⟨?_, fun ⟨l, hl⟩ => ?_, fun hl => ?_⟩
    · cases ht : timerEnds s with
      | false => rw [tick_of_pending h hw ht, hostTurn_bus]
      | true => simp [tick_of_elapsed h hw ht]
    · simp [tick_of_pending h hw (timerEnds_of_pending hl), hs, hw]
    · have hleft := afterStall_not_inWait (waited (hostTurn s)) h
      rw [← tick_of_elapsed h hw (timerEnds_of_ne_pending hl)] at hleft
      intro he
      simp [he, inWait_stallOf hx] at hleft

end Sys2Proof.Machine
end
